-- ==== Sys2Proof/Word.lean ====
section
/-! DEFINITION. The word types of the decoder (spec/10_state.md R20, spec/30_encoding.md R70, R73).
A timestamp has `TS_WIDTH` bits, a width that is a parameter of the block (spec/00_scope.md R5), so it is a natural
number below `2 ^ TS_WIDTH` and not a bit vector of a fixed width (log entry 3). -/

namespace Sys2Proof

/-- An 8-bit accumulator or mailbox byte (R20). -/
abbrev Byte := BitVec 8

/-- The sequencer position `step`: 7 bits, 0 to 127 (R24). -/
abbrev StepReg := BitVec 7

/-- The dispatch key `K = kind ++ step`: 9 bits (R73). -/
abbrev Key := BitVec 9

/-- The response word on the port `resp`: 19 bits (R70, R78). -/
abbrev RespWord := BitVec 19

end Sys2Proof
end

