-- ==== Sys2Proof/Config.lean ====
section
/-! DEFINITION. The configuration record `cfg` of spec/00_scope.md R5 and spec/10_state.md R28: what an integrator
fixes for a run. The six windows are a target `T` and a tolerance `TOL` each; every field is a natural number but for
`POLARITY_STRICT`. The machine holds one such record in State and no event writes it (R6, log entry 1). -/

namespace Sys2Proof

/-- A timing window: target and tolerance, in ticks (R12, R28). -/
structure Window where
  T   : Nat
  TOL : Nat
deriving DecidableEq, Repr

/-- The configuration constants (R5, R28). -/
structure Cfg where
  TS_WIDTH        : Nat
  START_LOW       : Window
  START_HIGH      : Window
  BIT_PULSE       : Window
  BIT_ZERO_GAP    : Window
  BIT_ONE_GAP     : Window
  STOP_PULSE      : Window
  POLARITY_STRICT : Bool
deriving DecidableEq, Repr

namespace Cfg

/-- The defaults of R5. `TS_WIDTH` is OPEN in the spec (D2): 16 is the width of its test vectors (log entry 2,
DESIGN CHOICE). -/
def defaults : Cfg where
  TS_WIDTH        := 16
  START_LOW       := ⟨9000, 200⟩
  START_HIGH      := ⟨4500, 200⟩
  BIT_PULSE       := ⟨1120, 150⟩
  BIT_ZERO_GAP    := ⟨1120, 150⟩
  BIT_ONE_GAP     := ⟨3380, 300⟩
  STOP_PULSE      := ⟨1120, 150⟩
  POLARITY_STRICT := true

/-- The legal values of R28: any naturals, and `TS_WIDTH` at least 1. -/
def legal (c : Cfg) : Bool := decide (1 ≤ c.TS_WIDTH)

/-- The six windows in the order of R5. -/
def windows (c : Cfg) : List Window :=
  [c.START_LOW, c.START_HIGH, c.BIT_PULSE, c.BIT_ZERO_GAP, c.BIT_ONE_GAP, c.STOP_PULSE]

/-- What an integrator keeps "who wants the behaviour DOC describes" (R6): `TOL ≤ T`, `T + TOL < 2 ^ W`, and the two
gap windows disjoint. No rule needs it. -/
def asDocDescribes (c : Cfg) : Bool :=
  c.legal &&
  c.windows.all (fun w => decide (w.TOL ≤ w.T) && decide (w.T + w.TOL < 2 ^ c.TS_WIDTH)) &&
  (decide (c.BIT_ZERO_GAP.T + c.BIT_ZERO_GAP.TOL ≤ c.BIT_ONE_GAP.T - c.BIT_ONE_GAP.TOL + 1) ||
   decide (c.BIT_ONE_GAP.T + c.BIT_ONE_GAP.TOL ≤ c.BIT_ZERO_GAP.T - c.BIT_ZERO_GAP.TOL + 1))

/-- Retargeting to a tick rate `r` times as fine: all twelve `T` and `TOL` values multiplied by `r` and nothing else
(spec/40_classifier.md R104). -/
def scale (r : Nat) (c : Cfg) : Cfg :=
  { c with
    START_LOW    := ⟨r * c.START_LOW.T, r * c.START_LOW.TOL⟩
    START_HIGH   := ⟨r * c.START_HIGH.T, r * c.START_HIGH.TOL⟩
    BIT_PULSE    := ⟨r * c.BIT_PULSE.T, r * c.BIT_PULSE.TOL⟩
    BIT_ZERO_GAP := ⟨r * c.BIT_ZERO_GAP.T, r * c.BIT_ZERO_GAP.TOL⟩
    BIT_ONE_GAP  := ⟨r * c.BIT_ONE_GAP.T, r * c.BIT_ONE_GAP.TOL⟩
    STOP_PULSE   := ⟨r * c.STOP_PULSE.T, r * c.STOP_PULSE.TOL⟩ }

end Cfg

end Sys2Proof
end

