-- ==== Sys2Proof/Syntax.lean ====
section
/-! DEFINITION. The types of spec/00_scope.md R11 (directions, events, responses, causes) and the instructions: one
constructor of `Instr` for each of the 75 rows of spec/opcode_table.json (spec/30_encoding.md R73). An EDGE row carries
the two operands of its event word, `dir` and `ts` (R71); NOP, POLL and RESET have none. -/

namespace Sys2Proof

/-- The direction of an edge (R11, R26). -/
inductive Dir where
  | falling
  | rising
deriving DecidableEq, Repr

/-- An input event (R11). -/
inductive Event where
  | nop
  | edge (ts : Nat) (dir : Dir)
  | poll
  | reset
deriving DecidableEq, Repr

/-- The response to an event (R11; spec/30_encoding.md R78). -/
inductive Response where
  | ack
  | pending
  | frameReady (address command : Byte)
  | resync
  | pollNone
  | pollSome (address command : Byte)
deriving DecidableEq, Repr

/-- Which check failed in a Resync: a label of the spec, not an output (R11; spec/60_exceptions.md R181). -/
inductive Cause where
  | timingMismatch
  | complementMismatch
  | polarityViolation
  | unreachableStep
deriving DecidableEq, Repr

/-- The rows of the opcode table, in its order. -/
inductive Instr where
  /-- NOP -/
  | nop
  /-- EDGE.AWAIT_START -/
  | edgeAwaitStart (dir : Dir) (ts : Nat)
  /-- EDGE.START_LOW -/
  | edgeStartLow (dir : Dir) (ts : Nat)
  /-- EDGE.START_HIGH -/
  | edgeStartHigh (dir : Dir) (ts : Nat)
  /-- EDGE.BIT_PULSE.0 -/
  | edgeBitPulse0 (dir : Dir) (ts : Nat)
  /-- EDGE.BIT_GAP.0 -/
  | edgeBitGap0 (dir : Dir) (ts : Nat)
  /-- EDGE.BIT_PULSE.1 -/
  | edgeBitPulse1 (dir : Dir) (ts : Nat)
  /-- EDGE.BIT_GAP.1 -/
  | edgeBitGap1 (dir : Dir) (ts : Nat)
  /-- EDGE.BIT_PULSE.2 -/
  | edgeBitPulse2 (dir : Dir) (ts : Nat)
  /-- EDGE.BIT_GAP.2 -/
  | edgeBitGap2 (dir : Dir) (ts : Nat)
  /-- EDGE.BIT_PULSE.3 -/
  | edgeBitPulse3 (dir : Dir) (ts : Nat)
  /-- EDGE.BIT_GAP.3 -/
  | edgeBitGap3 (dir : Dir) (ts : Nat)
  /-- EDGE.BIT_PULSE.4 -/
  | edgeBitPulse4 (dir : Dir) (ts : Nat)
  /-- EDGE.BIT_GAP.4 -/
  | edgeBitGap4 (dir : Dir) (ts : Nat)
  /-- EDGE.BIT_PULSE.5 -/
  | edgeBitPulse5 (dir : Dir) (ts : Nat)
  /-- EDGE.BIT_GAP.5 -/
  | edgeBitGap5 (dir : Dir) (ts : Nat)
  /-- EDGE.BIT_PULSE.6 -/
  | edgeBitPulse6 (dir : Dir) (ts : Nat)
  /-- EDGE.BIT_GAP.6 -/
  | edgeBitGap6 (dir : Dir) (ts : Nat)
  /-- EDGE.BIT_PULSE.7 -/
  | edgeBitPulse7 (dir : Dir) (ts : Nat)
  /-- EDGE.BIT_GAP.7 -/
  | edgeBitGap7 (dir : Dir) (ts : Nat)
  /-- EDGE.BIT_PULSE.8 -/
  | edgeBitPulse8 (dir : Dir) (ts : Nat)
  /-- EDGE.BIT_GAP.8 -/
  | edgeBitGap8 (dir : Dir) (ts : Nat)
  /-- EDGE.BIT_PULSE.9 -/
  | edgeBitPulse9 (dir : Dir) (ts : Nat)
  /-- EDGE.BIT_GAP.9 -/
  | edgeBitGap9 (dir : Dir) (ts : Nat)
  /-- EDGE.BIT_PULSE.10 -/
  | edgeBitPulse10 (dir : Dir) (ts : Nat)
  /-- EDGE.BIT_GAP.10 -/
  | edgeBitGap10 (dir : Dir) (ts : Nat)
  /-- EDGE.BIT_PULSE.11 -/
  | edgeBitPulse11 (dir : Dir) (ts : Nat)
  /-- EDGE.BIT_GAP.11 -/
  | edgeBitGap11 (dir : Dir) (ts : Nat)
  /-- EDGE.BIT_PULSE.12 -/
  | edgeBitPulse12 (dir : Dir) (ts : Nat)
  /-- EDGE.BIT_GAP.12 -/
  | edgeBitGap12 (dir : Dir) (ts : Nat)
  /-- EDGE.BIT_PULSE.13 -/
  | edgeBitPulse13 (dir : Dir) (ts : Nat)
  /-- EDGE.BIT_GAP.13 -/
  | edgeBitGap13 (dir : Dir) (ts : Nat)
  /-- EDGE.BIT_PULSE.14 -/
  | edgeBitPulse14 (dir : Dir) (ts : Nat)
  /-- EDGE.BIT_GAP.14 -/
  | edgeBitGap14 (dir : Dir) (ts : Nat)
  /-- EDGE.BIT_PULSE.15 -/
  | edgeBitPulse15 (dir : Dir) (ts : Nat)
  /-- EDGE.BIT_GAP.15 -/
  | edgeBitGap15 (dir : Dir) (ts : Nat)
  /-- EDGE.BIT_PULSE.16 -/
  | edgeBitPulse16 (dir : Dir) (ts : Nat)
  /-- EDGE.BIT_GAP.16 -/
  | edgeBitGap16 (dir : Dir) (ts : Nat)
  /-- EDGE.BIT_PULSE.17 -/
  | edgeBitPulse17 (dir : Dir) (ts : Nat)
  /-- EDGE.BIT_GAP.17 -/
  | edgeBitGap17 (dir : Dir) (ts : Nat)
  /-- EDGE.BIT_PULSE.18 -/
  | edgeBitPulse18 (dir : Dir) (ts : Nat)
  /-- EDGE.BIT_GAP.18 -/
  | edgeBitGap18 (dir : Dir) (ts : Nat)
  /-- EDGE.BIT_PULSE.19 -/
  | edgeBitPulse19 (dir : Dir) (ts : Nat)
  /-- EDGE.BIT_GAP.19 -/
  | edgeBitGap19 (dir : Dir) (ts : Nat)
  /-- EDGE.BIT_PULSE.20 -/
  | edgeBitPulse20 (dir : Dir) (ts : Nat)
  /-- EDGE.BIT_GAP.20 -/
  | edgeBitGap20 (dir : Dir) (ts : Nat)
  /-- EDGE.BIT_PULSE.21 -/
  | edgeBitPulse21 (dir : Dir) (ts : Nat)
  /-- EDGE.BIT_GAP.21 -/
  | edgeBitGap21 (dir : Dir) (ts : Nat)
  /-- EDGE.BIT_PULSE.22 -/
  | edgeBitPulse22 (dir : Dir) (ts : Nat)
  /-- EDGE.BIT_GAP.22 -/
  | edgeBitGap22 (dir : Dir) (ts : Nat)
  /-- EDGE.BIT_PULSE.23 -/
  | edgeBitPulse23 (dir : Dir) (ts : Nat)
  /-- EDGE.BIT_GAP.23 -/
  | edgeBitGap23 (dir : Dir) (ts : Nat)
  /-- EDGE.BIT_PULSE.24 -/
  | edgeBitPulse24 (dir : Dir) (ts : Nat)
  /-- EDGE.BIT_GAP.24 -/
  | edgeBitGap24 (dir : Dir) (ts : Nat)
  /-- EDGE.BIT_PULSE.25 -/
  | edgeBitPulse25 (dir : Dir) (ts : Nat)
  /-- EDGE.BIT_GAP.25 -/
  | edgeBitGap25 (dir : Dir) (ts : Nat)
  /-- EDGE.BIT_PULSE.26 -/
  | edgeBitPulse26 (dir : Dir) (ts : Nat)
  /-- EDGE.BIT_GAP.26 -/
  | edgeBitGap26 (dir : Dir) (ts : Nat)
  /-- EDGE.BIT_PULSE.27 -/
  | edgeBitPulse27 (dir : Dir) (ts : Nat)
  /-- EDGE.BIT_GAP.27 -/
  | edgeBitGap27 (dir : Dir) (ts : Nat)
  /-- EDGE.BIT_PULSE.28 -/
  | edgeBitPulse28 (dir : Dir) (ts : Nat)
  /-- EDGE.BIT_GAP.28 -/
  | edgeBitGap28 (dir : Dir) (ts : Nat)
  /-- EDGE.BIT_PULSE.29 -/
  | edgeBitPulse29 (dir : Dir) (ts : Nat)
  /-- EDGE.BIT_GAP.29 -/
  | edgeBitGap29 (dir : Dir) (ts : Nat)
  /-- EDGE.BIT_PULSE.30 -/
  | edgeBitPulse30 (dir : Dir) (ts : Nat)
  /-- EDGE.BIT_GAP.30 -/
  | edgeBitGap30 (dir : Dir) (ts : Nat)
  /-- EDGE.BIT_PULSE.31 -/
  | edgeBitPulse31 (dir : Dir) (ts : Nat)
  /-- EDGE.BIT_GAP.31 -/
  | edgeBitGap31 (dir : Dir) (ts : Nat)
  /-- EDGE.STOP_PULSE -/
  | edgeStopPulse (dir : Dir) (ts : Nat)
  /-- EDGE.BAD_STEP.68_71 -/
  | edgeBadStep68_71 (dir : Dir) (ts : Nat)
  /-- EDGE.BAD_STEP.72_79 -/
  | edgeBadStep72_79 (dir : Dir) (ts : Nat)
  /-- EDGE.BAD_STEP.80_95 -/
  | edgeBadStep80_95 (dir : Dir) (ts : Nat)
  /-- EDGE.BAD_STEP.96_127 -/
  | edgeBadStep96_127 (dir : Dir) (ts : Nat)
  /-- POLL -/
  | poll
  /-- RESET -/
  | reset
deriving DecidableEq, Repr

end Sys2Proof
end

