-- ==== Sys2Proof/WellFormed.lean ====
section
/-! DEFINITION. Well-formed events and instructions: the one check is that a timestamp fits its field of `TS_WIDTH` bits
(spec/30_encoding.md R71, R72). The other operand, `dir`, is well formed by its type, and so is every event kind. -/

namespace Sys2Proof

/-- A timestamp of `W` bits: `0 ≤ ts < 2 ^ W` (R72). -/
def fitsTicks (W : Nat) (ts : Nat) : Bool := decide (ts < 2 ^ W)

/-- The event's timestamp, if it has one, fits (R71). -/
def Event.wf (W : Nat) : Event → Bool
  | .edge ts _ => fitsTicks W ts
  | _          => true

/-- The timestamp of an instruction: 0 for NOP, POLL and RESET, which have none. -/
def Instr.timestamp : Instr → Nat
  | .nop => 0
  | .edgeAwaitStart _ ts => ts
  | .edgeStartLow _ ts => ts
  | .edgeStartHigh _ ts => ts
  | .edgeBitPulse0 _ ts => ts
  | .edgeBitGap0 _ ts => ts
  | .edgeBitPulse1 _ ts => ts
  | .edgeBitGap1 _ ts => ts
  | .edgeBitPulse2 _ ts => ts
  | .edgeBitGap2 _ ts => ts
  | .edgeBitPulse3 _ ts => ts
  | .edgeBitGap3 _ ts => ts
  | .edgeBitPulse4 _ ts => ts
  | .edgeBitGap4 _ ts => ts
  | .edgeBitPulse5 _ ts => ts
  | .edgeBitGap5 _ ts => ts
  | .edgeBitPulse6 _ ts => ts
  | .edgeBitGap6 _ ts => ts
  | .edgeBitPulse7 _ ts => ts
  | .edgeBitGap7 _ ts => ts
  | .edgeBitPulse8 _ ts => ts
  | .edgeBitGap8 _ ts => ts
  | .edgeBitPulse9 _ ts => ts
  | .edgeBitGap9 _ ts => ts
  | .edgeBitPulse10 _ ts => ts
  | .edgeBitGap10 _ ts => ts
  | .edgeBitPulse11 _ ts => ts
  | .edgeBitGap11 _ ts => ts
  | .edgeBitPulse12 _ ts => ts
  | .edgeBitGap12 _ ts => ts
  | .edgeBitPulse13 _ ts => ts
  | .edgeBitGap13 _ ts => ts
  | .edgeBitPulse14 _ ts => ts
  | .edgeBitGap14 _ ts => ts
  | .edgeBitPulse15 _ ts => ts
  | .edgeBitGap15 _ ts => ts
  | .edgeBitPulse16 _ ts => ts
  | .edgeBitGap16 _ ts => ts
  | .edgeBitPulse17 _ ts => ts
  | .edgeBitGap17 _ ts => ts
  | .edgeBitPulse18 _ ts => ts
  | .edgeBitGap18 _ ts => ts
  | .edgeBitPulse19 _ ts => ts
  | .edgeBitGap19 _ ts => ts
  | .edgeBitPulse20 _ ts => ts
  | .edgeBitGap20 _ ts => ts
  | .edgeBitPulse21 _ ts => ts
  | .edgeBitGap21 _ ts => ts
  | .edgeBitPulse22 _ ts => ts
  | .edgeBitGap22 _ ts => ts
  | .edgeBitPulse23 _ ts => ts
  | .edgeBitGap23 _ ts => ts
  | .edgeBitPulse24 _ ts => ts
  | .edgeBitGap24 _ ts => ts
  | .edgeBitPulse25 _ ts => ts
  | .edgeBitGap25 _ ts => ts
  | .edgeBitPulse26 _ ts => ts
  | .edgeBitGap26 _ ts => ts
  | .edgeBitPulse27 _ ts => ts
  | .edgeBitGap27 _ ts => ts
  | .edgeBitPulse28 _ ts => ts
  | .edgeBitGap28 _ ts => ts
  | .edgeBitPulse29 _ ts => ts
  | .edgeBitGap29 _ ts => ts
  | .edgeBitPulse30 _ ts => ts
  | .edgeBitGap30 _ ts => ts
  | .edgeBitPulse31 _ ts => ts
  | .edgeBitGap31 _ ts => ts
  | .edgeStopPulse _ ts => ts
  | .edgeBadStep68_71 _ ts => ts
  | .edgeBadStep72_79 _ ts => ts
  | .edgeBadStep80_95 _ ts => ts
  | .edgeBadStep96_127 _ ts => ts
  | .poll => 0
  | .reset => 0

/-- The instruction's timestamp fits (R71, R72). -/
def Instr.wf (W : Nat) (i : Instr) : Bool := fitsTicks W i.timestamp

end Sys2Proof
end

