-- ==== Sys2Proof/Decode.lean ====
section
/-! DEFINITION. The event word (spec/30_encoding.md R71), the dispatch key and the map from keys to operations (R73,
R74), the response word (R78); then the encoder, written from the masks and matches of spec/opcode_table.json and the
field table of R71. What is decoded is a pair: the stored `step` and the word on the port `ev`. -/

namespace Sys2Proof

/-- Why a number is no event word. -/
inductive Reject where
  /-- The number needs more than `TS_WIDTH + 3` bits: no such word stands on the port `ev` (R70, log entry 6). -/
  | eventWordTooWide
deriving DecidableEq, Repr

/-- What selects and feeds an operation: the `step` before the event and the event word (R73, R71). -/
structure InstrWord where
  step : StepReg
  ev   : Nat
deriving DecidableEq, Repr

/-! ### The event word, R71 -/

/-- FALLING = 0, RISING = 1 (R71, R26). -/
def Dir.code : Dir → Nat
  | .falling => 0
  | .rising  => 1

/-- The direction a `dir` bit stands for. -/
def Dir.ofCode (b : Nat) : Dir := if b = 0 then .falling else .rising

/-- `ev[W+2:W+1]` is the kind, `ev[W]` the direction, `ev[W-1:0]` the timestamp; direction and timestamp are read
only when the kind is EDGE (R71, R79 items 2 and 3). -/
def decodeEvent (W ev : Nat) : Except Reject Event :=
  match ev / 2 ^ (W + 1) with
  | 0 => .ok .nop
  | 1 => .ok (.edge (ev % 2 ^ W) (.ofCode (ev / 2 ^ W % 2)))
  | 2 => .ok .poll
  | 3 => .ok .reset
  | _ => .error .eventWordTooWide

/-- The `kind` field of an event (R71). -/
def Event.kind : Event → Nat
  | .nop      => 0
  | .edge _ _ => 1
  | .poll     => 2
  | .reset    => 3

/-- The `dir` and `ts` fields as one number of `W + 1` bits; 0, the canonical value, for an event without operands
(R71). -/
def Event.operands (W : Nat) : Event → Nat
  | .edge ts dir => dir.code * 2 ^ W + ts
  | _            => 0

/-- The canonical event word of an event (R71). -/
def encodeEvent (W : Nat) (e : Event) : Nat := e.kind * 2 ^ (W + 1) + e.operands W

/-! ### The dispatch key and the map, R73 and R74 -/

/-- `K = kind ++ step` (R73). -/
def dispatchKey (step : StepReg) (e : Event) : Key := BitVec.ofNat 2 e.kind ++ step

/-- The BIT_PULSE row of frame bit `i`, 0 to 31 (R76). -/
def bitPulseRow (i : Nat) (dir : Dir) (ts : Nat) : Instr :=
  match i with
  | 0 => .edgeBitPulse0 dir ts
  | 1 => .edgeBitPulse1 dir ts
  | 2 => .edgeBitPulse2 dir ts
  | 3 => .edgeBitPulse3 dir ts
  | 4 => .edgeBitPulse4 dir ts
  | 5 => .edgeBitPulse5 dir ts
  | 6 => .edgeBitPulse6 dir ts
  | 7 => .edgeBitPulse7 dir ts
  | 8 => .edgeBitPulse8 dir ts
  | 9 => .edgeBitPulse9 dir ts
  | 10 => .edgeBitPulse10 dir ts
  | 11 => .edgeBitPulse11 dir ts
  | 12 => .edgeBitPulse12 dir ts
  | 13 => .edgeBitPulse13 dir ts
  | 14 => .edgeBitPulse14 dir ts
  | 15 => .edgeBitPulse15 dir ts
  | 16 => .edgeBitPulse16 dir ts
  | 17 => .edgeBitPulse17 dir ts
  | 18 => .edgeBitPulse18 dir ts
  | 19 => .edgeBitPulse19 dir ts
  | 20 => .edgeBitPulse20 dir ts
  | 21 => .edgeBitPulse21 dir ts
  | 22 => .edgeBitPulse22 dir ts
  | 23 => .edgeBitPulse23 dir ts
  | 24 => .edgeBitPulse24 dir ts
  | 25 => .edgeBitPulse25 dir ts
  | 26 => .edgeBitPulse26 dir ts
  | 27 => .edgeBitPulse27 dir ts
  | 28 => .edgeBitPulse28 dir ts
  | 29 => .edgeBitPulse29 dir ts
  | 30 => .edgeBitPulse30 dir ts
  | _ => .edgeBitPulse31 dir ts

/-- The BIT_GAP row of frame bit `i`, 0 to 31 (R76). -/
def bitGapRow (i : Nat) (dir : Dir) (ts : Nat) : Instr :=
  match i with
  | 0 => .edgeBitGap0 dir ts
  | 1 => .edgeBitGap1 dir ts
  | 2 => .edgeBitGap2 dir ts
  | 3 => .edgeBitGap3 dir ts
  | 4 => .edgeBitGap4 dir ts
  | 5 => .edgeBitGap5 dir ts
  | 6 => .edgeBitGap6 dir ts
  | 7 => .edgeBitGap7 dir ts
  | 8 => .edgeBitGap8 dir ts
  | 9 => .edgeBitGap9 dir ts
  | 10 => .edgeBitGap10 dir ts
  | 11 => .edgeBitGap11 dir ts
  | 12 => .edgeBitGap12 dir ts
  | 13 => .edgeBitGap13 dir ts
  | 14 => .edgeBitGap14 dir ts
  | 15 => .edgeBitGap15 dir ts
  | 16 => .edgeBitGap16 dir ts
  | 17 => .edgeBitGap17 dir ts
  | 18 => .edgeBitGap18 dir ts
  | 19 => .edgeBitGap19 dir ts
  | 20 => .edgeBitGap20 dir ts
  | 21 => .edgeBitGap21 dir ts
  | 22 => .edgeBitGap22 dir ts
  | 23 => .edgeBitGap23 dir ts
  | 24 => .edgeBitGap24 dir ts
  | 25 => .edgeBitGap25 dir ts
  | 26 => .edgeBitGap26 dir ts
  | 27 => .edgeBitGap27 dir ts
  | 28 => .edgeBitGap28 dir ts
  | 29 => .edgeBitGap29 dir ts
  | 30 => .edgeBitGap30 dir ts
  | _ => .edgeBitGap31 dir ts

/-- The EDGE operation a `step` selects; 1, 2 and 67 are told apart before the parity is looked at (R73, R74). -/
def edgeRow (step : StepReg) (dir : Dir) (ts : Nat) : Instr :=
  if step.toNat = 0 then .edgeAwaitStart dir ts
  else if step.toNat = 1 then .edgeStartLow dir ts
  else if step.toNat = 2 then .edgeStartHigh dir ts
  else if step.toNat ≤ 66 then
    if step.toNat % 2 = 1 then bitPulseRow ((step.toNat - 3) / 2) dir ts
    else bitGapRow ((step.toNat - 4) / 2) dir ts
  else if step.toNat = 67 then .edgeStopPulse dir ts
  else if step.toNat ≤ 71 then .edgeBadStep68_71 dir ts
  else if step.toNat ≤ 79 then .edgeBadStep72_79 dir ts
  else if step.toNat ≤ 95 then .edgeBadStep80_95 dir ts
  else .edgeBadStep96_127 dir ts

/-- The operation an event runs at a `step` (R73). -/
def dispatch (step : StepReg) : Event → Instr
  | .nop         => .nop
  | .edge ts dir => edgeRow step dir ts
  | .poll        => .poll
  | .reset       => .reset

/-- The decoder: total; it rejects only a number that is no event word. -/
def decode (W : Nat) (w : InstrWord) : Except Reject Instr :=
  match decodeEvent W w.ev with
  | .ok e    => .ok (dispatch w.step e)
  | .error r => .error r

/-! ### The opcode table and the encoder -/

/-- `match` and `mask` of a row over the key `K` (format `K9` of spec/opcode_table.json). -/
structure KeyRow where
  pattern : Key
  mask    : Key
deriving DecidableEq, Repr

/-- The row covers the key. -/
def KeyRow.covers (r : KeyRow) (k : Key) : Bool := k &&& r.mask == r.pattern

/-- `K[6:0]` of the row's pattern. -/
def KeyRow.stepBits (r : KeyRow) : StepReg := BitVec.ofNat 7 r.pattern.toNat

/-- `K[8:7]` of the row's pattern. -/
def KeyRow.kindBits (r : KeyRow) : Nat := r.pattern.toNat / 128

/-- `match` and `mask` of each row of spec/opcode_table.json. -/
def keyRow : Instr → KeyRow
  | .nop => ⟨0x000#9, 0x180#9⟩
  | .edgeAwaitStart _ _ => ⟨0x080#9, 0x1ff#9⟩
  | .edgeStartLow _ _ => ⟨0x081#9, 0x1ff#9⟩
  | .edgeStartHigh _ _ => ⟨0x082#9, 0x1ff#9⟩
  | .edgeBitPulse0 _ _ => ⟨0x083#9, 0x1ff#9⟩
  | .edgeBitGap0 _ _ => ⟨0x084#9, 0x1ff#9⟩
  | .edgeBitPulse1 _ _ => ⟨0x085#9, 0x1ff#9⟩
  | .edgeBitGap1 _ _ => ⟨0x086#9, 0x1ff#9⟩
  | .edgeBitPulse2 _ _ => ⟨0x087#9, 0x1ff#9⟩
  | .edgeBitGap2 _ _ => ⟨0x088#9, 0x1ff#9⟩
  | .edgeBitPulse3 _ _ => ⟨0x089#9, 0x1ff#9⟩
  | .edgeBitGap3 _ _ => ⟨0x08a#9, 0x1ff#9⟩
  | .edgeBitPulse4 _ _ => ⟨0x08b#9, 0x1ff#9⟩
  | .edgeBitGap4 _ _ => ⟨0x08c#9, 0x1ff#9⟩
  | .edgeBitPulse5 _ _ => ⟨0x08d#9, 0x1ff#9⟩
  | .edgeBitGap5 _ _ => ⟨0x08e#9, 0x1ff#9⟩
  | .edgeBitPulse6 _ _ => ⟨0x08f#9, 0x1ff#9⟩
  | .edgeBitGap6 _ _ => ⟨0x090#9, 0x1ff#9⟩
  | .edgeBitPulse7 _ _ => ⟨0x091#9, 0x1ff#9⟩
  | .edgeBitGap7 _ _ => ⟨0x092#9, 0x1ff#9⟩
  | .edgeBitPulse8 _ _ => ⟨0x093#9, 0x1ff#9⟩
  | .edgeBitGap8 _ _ => ⟨0x094#9, 0x1ff#9⟩
  | .edgeBitPulse9 _ _ => ⟨0x095#9, 0x1ff#9⟩
  | .edgeBitGap9 _ _ => ⟨0x096#9, 0x1ff#9⟩
  | .edgeBitPulse10 _ _ => ⟨0x097#9, 0x1ff#9⟩
  | .edgeBitGap10 _ _ => ⟨0x098#9, 0x1ff#9⟩
  | .edgeBitPulse11 _ _ => ⟨0x099#9, 0x1ff#9⟩
  | .edgeBitGap11 _ _ => ⟨0x09a#9, 0x1ff#9⟩
  | .edgeBitPulse12 _ _ => ⟨0x09b#9, 0x1ff#9⟩
  | .edgeBitGap12 _ _ => ⟨0x09c#9, 0x1ff#9⟩
  | .edgeBitPulse13 _ _ => ⟨0x09d#9, 0x1ff#9⟩
  | .edgeBitGap13 _ _ => ⟨0x09e#9, 0x1ff#9⟩
  | .edgeBitPulse14 _ _ => ⟨0x09f#9, 0x1ff#9⟩
  | .edgeBitGap14 _ _ => ⟨0x0a0#9, 0x1ff#9⟩
  | .edgeBitPulse15 _ _ => ⟨0x0a1#9, 0x1ff#9⟩
  | .edgeBitGap15 _ _ => ⟨0x0a2#9, 0x1ff#9⟩
  | .edgeBitPulse16 _ _ => ⟨0x0a3#9, 0x1ff#9⟩
  | .edgeBitGap16 _ _ => ⟨0x0a4#9, 0x1ff#9⟩
  | .edgeBitPulse17 _ _ => ⟨0x0a5#9, 0x1ff#9⟩
  | .edgeBitGap17 _ _ => ⟨0x0a6#9, 0x1ff#9⟩
  | .edgeBitPulse18 _ _ => ⟨0x0a7#9, 0x1ff#9⟩
  | .edgeBitGap18 _ _ => ⟨0x0a8#9, 0x1ff#9⟩
  | .edgeBitPulse19 _ _ => ⟨0x0a9#9, 0x1ff#9⟩
  | .edgeBitGap19 _ _ => ⟨0x0aa#9, 0x1ff#9⟩
  | .edgeBitPulse20 _ _ => ⟨0x0ab#9, 0x1ff#9⟩
  | .edgeBitGap20 _ _ => ⟨0x0ac#9, 0x1ff#9⟩
  | .edgeBitPulse21 _ _ => ⟨0x0ad#9, 0x1ff#9⟩
  | .edgeBitGap21 _ _ => ⟨0x0ae#9, 0x1ff#9⟩
  | .edgeBitPulse22 _ _ => ⟨0x0af#9, 0x1ff#9⟩
  | .edgeBitGap22 _ _ => ⟨0x0b0#9, 0x1ff#9⟩
  | .edgeBitPulse23 _ _ => ⟨0x0b1#9, 0x1ff#9⟩
  | .edgeBitGap23 _ _ => ⟨0x0b2#9, 0x1ff#9⟩
  | .edgeBitPulse24 _ _ => ⟨0x0b3#9, 0x1ff#9⟩
  | .edgeBitGap24 _ _ => ⟨0x0b4#9, 0x1ff#9⟩
  | .edgeBitPulse25 _ _ => ⟨0x0b5#9, 0x1ff#9⟩
  | .edgeBitGap25 _ _ => ⟨0x0b6#9, 0x1ff#9⟩
  | .edgeBitPulse26 _ _ => ⟨0x0b7#9, 0x1ff#9⟩
  | .edgeBitGap26 _ _ => ⟨0x0b8#9, 0x1ff#9⟩
  | .edgeBitPulse27 _ _ => ⟨0x0b9#9, 0x1ff#9⟩
  | .edgeBitGap27 _ _ => ⟨0x0ba#9, 0x1ff#9⟩
  | .edgeBitPulse28 _ _ => ⟨0x0bb#9, 0x1ff#9⟩
  | .edgeBitGap28 _ _ => ⟨0x0bc#9, 0x1ff#9⟩
  | .edgeBitPulse29 _ _ => ⟨0x0bd#9, 0x1ff#9⟩
  | .edgeBitGap29 _ _ => ⟨0x0be#9, 0x1ff#9⟩
  | .edgeBitPulse30 _ _ => ⟨0x0bf#9, 0x1ff#9⟩
  | .edgeBitGap30 _ _ => ⟨0x0c0#9, 0x1ff#9⟩
  | .edgeBitPulse31 _ _ => ⟨0x0c1#9, 0x1ff#9⟩
  | .edgeBitGap31 _ _ => ⟨0x0c2#9, 0x1ff#9⟩
  | .edgeStopPulse _ _ => ⟨0x0c3#9, 0x1ff#9⟩
  | .edgeBadStep68_71 _ _ => ⟨0x0c4#9, 0x1fc#9⟩
  | .edgeBadStep72_79 _ _ => ⟨0x0c8#9, 0x1f8#9⟩
  | .edgeBadStep80_95 _ _ => ⟨0x0d0#9, 0x1f0#9⟩
  | .edgeBadStep96_127 _ _ => ⟨0x0e0#9, 0x1e0#9⟩
  | .poll => ⟨0x100#9, 0x180#9⟩
  | .reset => ⟨0x180#9, 0x180#9⟩

/-- The event that runs the instruction. -/
def instrEvent : Instr → Event
  | .nop => .nop
  | .edgeAwaitStart dir ts => .edge ts dir
  | .edgeStartLow dir ts => .edge ts dir
  | .edgeStartHigh dir ts => .edge ts dir
  | .edgeBitPulse0 dir ts => .edge ts dir
  | .edgeBitGap0 dir ts => .edge ts dir
  | .edgeBitPulse1 dir ts => .edge ts dir
  | .edgeBitGap1 dir ts => .edge ts dir
  | .edgeBitPulse2 dir ts => .edge ts dir
  | .edgeBitGap2 dir ts => .edge ts dir
  | .edgeBitPulse3 dir ts => .edge ts dir
  | .edgeBitGap3 dir ts => .edge ts dir
  | .edgeBitPulse4 dir ts => .edge ts dir
  | .edgeBitGap4 dir ts => .edge ts dir
  | .edgeBitPulse5 dir ts => .edge ts dir
  | .edgeBitGap5 dir ts => .edge ts dir
  | .edgeBitPulse6 dir ts => .edge ts dir
  | .edgeBitGap6 dir ts => .edge ts dir
  | .edgeBitPulse7 dir ts => .edge ts dir
  | .edgeBitGap7 dir ts => .edge ts dir
  | .edgeBitPulse8 dir ts => .edge ts dir
  | .edgeBitGap8 dir ts => .edge ts dir
  | .edgeBitPulse9 dir ts => .edge ts dir
  | .edgeBitGap9 dir ts => .edge ts dir
  | .edgeBitPulse10 dir ts => .edge ts dir
  | .edgeBitGap10 dir ts => .edge ts dir
  | .edgeBitPulse11 dir ts => .edge ts dir
  | .edgeBitGap11 dir ts => .edge ts dir
  | .edgeBitPulse12 dir ts => .edge ts dir
  | .edgeBitGap12 dir ts => .edge ts dir
  | .edgeBitPulse13 dir ts => .edge ts dir
  | .edgeBitGap13 dir ts => .edge ts dir
  | .edgeBitPulse14 dir ts => .edge ts dir
  | .edgeBitGap14 dir ts => .edge ts dir
  | .edgeBitPulse15 dir ts => .edge ts dir
  | .edgeBitGap15 dir ts => .edge ts dir
  | .edgeBitPulse16 dir ts => .edge ts dir
  | .edgeBitGap16 dir ts => .edge ts dir
  | .edgeBitPulse17 dir ts => .edge ts dir
  | .edgeBitGap17 dir ts => .edge ts dir
  | .edgeBitPulse18 dir ts => .edge ts dir
  | .edgeBitGap18 dir ts => .edge ts dir
  | .edgeBitPulse19 dir ts => .edge ts dir
  | .edgeBitGap19 dir ts => .edge ts dir
  | .edgeBitPulse20 dir ts => .edge ts dir
  | .edgeBitGap20 dir ts => .edge ts dir
  | .edgeBitPulse21 dir ts => .edge ts dir
  | .edgeBitGap21 dir ts => .edge ts dir
  | .edgeBitPulse22 dir ts => .edge ts dir
  | .edgeBitGap22 dir ts => .edge ts dir
  | .edgeBitPulse23 dir ts => .edge ts dir
  | .edgeBitGap23 dir ts => .edge ts dir
  | .edgeBitPulse24 dir ts => .edge ts dir
  | .edgeBitGap24 dir ts => .edge ts dir
  | .edgeBitPulse25 dir ts => .edge ts dir
  | .edgeBitGap25 dir ts => .edge ts dir
  | .edgeBitPulse26 dir ts => .edge ts dir
  | .edgeBitGap26 dir ts => .edge ts dir
  | .edgeBitPulse27 dir ts => .edge ts dir
  | .edgeBitGap27 dir ts => .edge ts dir
  | .edgeBitPulse28 dir ts => .edge ts dir
  | .edgeBitGap28 dir ts => .edge ts dir
  | .edgeBitPulse29 dir ts => .edge ts dir
  | .edgeBitGap29 dir ts => .edge ts dir
  | .edgeBitPulse30 dir ts => .edge ts dir
  | .edgeBitGap30 dir ts => .edge ts dir
  | .edgeBitPulse31 dir ts => .edge ts dir
  | .edgeBitGap31 dir ts => .edge ts dir
  | .edgeStopPulse dir ts => .edge ts dir
  | .edgeBadStep68_71 dir ts => .edge ts dir
  | .edgeBadStep72_79 dir ts => .edge ts dir
  | .edgeBadStep80_95 dir ts => .edge ts dir
  | .edgeBadStep96_127 dir ts => .edge ts dir
  | .poll => .poll
  | .reset => .reset

/-- The canonical words of an instruction: `K[6:0]` of its row is the `step`, `K[8:7]` the kind field of the event word,
beside the operands. Where a row leaves bits of `step` free the encoder takes 0 for them (log entry 9). -/
def encode (W : Nat) (i : Instr) : InstrWord where
  step := (keyRow i).stepBits
  ev   := (keyRow i).kindBits * 2 ^ (W + 1) + (instrEvent i).operands W

/-! ### A row of the table as a number -/

/-- A table word is the key `K`, `K[6:0]` the `step` and `K[8:7]` the kind; the operands `dir` and `ts`, to which the
table gives no bits, are 0. Bits above `K[8]` are no part of the key and are not read (log entry 9). -/
def tableWord (W w : Nat) : InstrWord where
  step := BitVec.ofNat 7 w
  ev   := w / 128 % 4 * 2 ^ (W + 1)

/-- What the decoder reads from a table word. -/
def decodeTableWord (_nbits w : Nat) : Option Instr :=
  match decode Cfg.defaults.TS_WIDTH (tableWord Cfg.defaults.TS_WIDTH w) with
  | .ok i    => some i
  | .error _ => none

/-! ### The response word, R78 -/

/-- `resp[18:16]` (R78). -/
def Response.rkind : Response → BitVec 3
  | .ack            => 0
  | .pending        => 1
  | .frameReady _ _ => 2
  | .resync         => 3
  | .pollNone       => 4
  | .pollSome _ _   => 5

/-- `resp[15:8]`: the frame's address when there is a frame, else 0 (R78). -/
def Response.raddress : Response → Byte
  | .frameReady a _ => a
  | .pollSome a _   => a
  | _               => 0

/-- `resp[7:0]`: the frame's command when there is a frame, else 0 (R78). -/
def Response.rcommand : Response → Byte
  | .frameReady _ c => c
  | .pollSome _ c   => c
  | _               => 0

/-- The 19-bit response word (R78). -/
def Response.word (r : Response) : RespWord := r.rkind ++ (r.raddress ++ r.rcommand)

end Sys2Proof
end

