-- ==== Sys2Proof/Machine/State.lean ====
section
/-! DEFINITION. The state of the block (spec/10_state.md R20): DecoderState, the mailbox, the constants `cfg`, the words
the environment will present on `ev`, the response port, and one label that nothing reads. State after power-on
(spec/70_reset_and_hazards.md R210, R211). -/

namespace Sys2Proof

/-- DecoderState: the seven fields the decoder owns (R20 to R26). -/
structure DecoderState where
  step            : StepReg
  last_ts         : Nat
  address         : Byte
  address_inverse : Byte
  command         : Byte
  command_inverse : Byte
  expected_dir    : Dir
deriving DecidableEq, Repr

/-- `INIT`, the initial value of DecoderState (R30). -/
def DecoderState.INIT : DecoderState where
  step            := 0
  last_ts         := 0
  address         := 0
  address_inverse := 0
  command         := 0
  command_inverse := 0
  expected_dir    := .falling

/-- The single-slot mailbox (R20, R27, R29). -/
structure Mailbox where
  frame_ready   : Bool
  frame_address : Byte
  frame_command : Byte
deriving DecidableEq, Repr

/-- The reset value of the mailbox (R31). -/
def Mailbox.EMPTY : Mailbox where
  frame_ready   := false
  frame_address := 0
  frame_command := 0

namespace Machine

/-- The machine. `cfg` is constant over a run (spec/00_scope.md R6, log entry 1). `pending` holds the event words the
environment will present on the port `ev`, first to come first (spec/30_encoding.md R70, log entry 4). `resp` is the
response to the event just performed (R70, R78, log entry 7). `cause` is the label of the event's Resync, if it raised
one; no rule reads it (spec/60_exceptions.md R181, log entry 8). -/
structure State where
  cfg     : Cfg
  decoder : DecoderState
  mailbox : Mailbox
  pending : List Nat
  resp    : Response
  cause   : Option Cause
deriving DecidableEq, Repr

/-- The machine stops with a fault: never. No EDGE can block, fault or be refused (spec/41_edge_operations.md R139), and
POLL, NOP and RESET always complete (spec/20_memory.md R60, spec/42_host_operations.md R161 to R163), so this type has no
constructor and nothing raises one (log entry 10). -/
inductive Fault
deriving DecidableEq, Repr

/-- Why a step has no meaning. -/
inductive Refusal where
  /-- Raised by an arm of `exec` without a meaning; there is none left. Safe. -/
  | notModelled (mnemonic : String)
  /-- Raised by `step` when the next entry of `pending` has more than `TS_WIDTH + 3` bits and so is no event word, which
  the port `ev` cannot carry (spec/30_encoding.md R70, R71, log entry 6). Safe. -/
  | eventWordTooWide
deriving DecidableEq, Repr

/-- The state after power-on: every field at the value of R210, the default `cfg`, nothing presented yet, and the
response of a RESET event, which power-on is (R211). -/
def State.reset : State where
  cfg     := .defaults
  decoder := .INIT
  mailbox := .EMPTY
  pending := []
  resp    := .ack
  cause   := none

/-- The four level outputs (R41). -/
structure LevelOutputs where
  expected_dir  : Dir
  frame_ready   : Bool
  frame_address : Byte
  frame_command : Byte
deriving DecidableEq, Repr

end Machine

end Sys2Proof
end

