-- ==== Sys2Proof/Machine/Operands.lean ====
section
/-! DEFINITION. The pure functions the EDGE operations read their operands through: the classifier and the block's whole
arithmetic (spec/40_classifier.md R101 to R108), the frame bit a `step` selects (spec/10_state.md R23), and the outputs
(spec/10_state.md R41, spec/30_encoding.md R70). -/

namespace Sys2Proof

/-- `(ts − last_ts) mod 2 ^ W`, computed over the integers and narrowed to `W` bits (R101). -/
def interval (W : Nat) (last_ts ts : Nat) : Nat :=
  (((ts : Int) - (last_ts : Int)) % ((2 ^ W : Nat) : Int)).toNat

/-- `T − tol < d` and `d < T + tol`, both over the integers (R102). -/
def Window.admits (w : Window) (d : Nat) : Bool :=
  decide ((w.T : Int) - (w.TOL : Int) < (d : Int)) && decide ((d : Int) < (w.T : Int) + (w.TOL : Int))

/-- The three classes of a gap (R105). -/
inductive GapClass where
  | zero
  | one
  | neither
deriving DecidableEq, Repr

/-- Exactly one of the two gap windows must match (R105). -/
def gapClass (c : Cfg) (d : Nat) : GapClass :=
  match c.BIT_ZERO_GAP.admits d, c.BIT_ONE_GAP.admits d with
  | true,  false => .zero
  | false, true  => .one
  | false, false => .neither
  | true,  true  => .neither

/-- `acc | (1 << k)` (R108). -/
def setBit (acc : Byte) (k : Nat) : Byte := acc ||| (1#8 <<< k)

/-- The frame bit a gap step decides: `(step − 4) / 2` (R23, R131). -/
def frameBitIndex (step : StepReg) : Nat := (step.toNat - 4) / 2

namespace DecoderState

/-- Both byte pairs are bitwise complements (R106). -/
def complementOk (d : DecoderState) : Bool :=
  d.address == ~~~d.address_inverse && d.command == ~~~d.command_inverse

/-- Frame bit `i` set: bit `i mod 8` of the accumulator that `i` selects (R23, R131). -/
def setFrameBit (d : DecoderState) (i : Nat) : DecoderState :=
  if i < 8 then { d with address := setBit d.address (i % 8) }
  else if i < 16 then { d with address_inverse := setBit d.address_inverse (i % 8) }
  else if i < 24 then { d with command := setBit d.command (i % 8) }
  else { d with command_inverse := setBit d.command_inverse (i % 8) }

/-- The four accumulators as one value, frame bit `i` its bit `i`: a view that the block never forms (R52). -/
def frame (d : DecoderState) : BitVec 32 :=
  d.command_inverse ++ (d.command ++ (d.address_inverse ++ d.address))

end DecoderState

namespace Machine

/-- `interval(ts)`: from the previously accepted edge to the present one (R101). -/
def intervalAt (s : State) (ts : Nat) : Nat := interval s.cfg.TS_WIDTH s.decoder.last_ts ts

/-- What is visible outside the block at all times (R41). -/
def State.levelOutputs (s : State) : LevelOutputs where
  expected_dir  := s.decoder.expected_dir
  frame_ready   := s.mailbox.frame_ready
  frame_address := s.mailbox.frame_address
  frame_command := s.mailbox.frame_command

/-- The word on the port `resp` (R70, R78). -/
def State.respPort (s : State) : RespWord := s.resp.word

end Machine

end Sys2Proof
end

