-- ==== Sys2Proof/Machine/Flags.lean ====
section
/-! DEFINITION. The two flags (spec/10_state.md R26, R27): how `expected_dir` flips and what the polarity check compares
it with (spec/41_edge_operations.md R121, R122), and how `frame_ready` is set and cleared (R133,
spec/42_host_operations.md R161). -/

namespace Sys2Proof

/-- RISING if FALLING, else FALLING: a toggle of the stored bit (R122). -/
def Dir.flip : Dir → Dir
  | .falling => .rising
  | .rising  => .falling

/-- `cfg.POLARITY_STRICT and dir ≠ expected_dir` (R121). -/
def wrongDirection (c : Cfg) (dir expected : Dir) : Bool := c.POLARITY_STRICT && dir != expected

/-- A frame placed in the mailbox, over whatever was there (R29, R133). -/
def Mailbox.put (_m : Mailbox) (a c : Byte) : Mailbox where
  frame_ready   := true
  frame_address := a
  frame_command := c

/-- The flag cleared, the data kept (R161). -/
def Mailbox.take (m : Mailbox) : Mailbox := { m with frame_ready := false }

end Sys2Proof
end

