-- ==== Sys2Proof/Machine/Ops.lean ====
section
/-! DEFINITION. The shared operations: answering an event, taking the exception of the block (Resync,
spec/60_exceptions.md R190), accepting an edge, emitting a frame, and the two tests that stand before an EDGE operation's
own effect (spec/41_edge_operations.md R120 to R122, R133). -/

namespace Sys2Proof.Machine

/-- `respond r`: the event's response, with no Resync raised (spec/00_scope.md R10). -/
def respond (r : Response) (s : State) : State := { s with resp := r, cause := none }

/-- `raise Resync(cause)`: DecoderState takes its initial value, the mailbox is not written, the response is Resync and
the edge is consumed (R190). There is no return from it and nothing is saved (R192). -/
def raiseResync (c : Cause) (s : State) : State :=
  { s with decoder := .INIT, resp := .resync, cause := some c }

/-- `accept(ts)`: the present edge becomes the previously accepted edge (R122). -/
def accept (ts : Nat) (s : State) : State :=
  respond .pending
    { s with decoder := { s.decoder with
        step         := s.decoder.step + 1
        last_ts      := ts
        expected_dir := s.decoder.expected_dir.flip } }

/-- Frame emission: (address, command) to the mailbox and to the response, DecoderState to `INIT` (R133). -/
def emitFrame (s : State) : State :=
  respond (.frameReady s.decoder.address s.decoder.command)
    { s with
      decoder := .INIT
      mailbox := s.mailbox.put s.decoder.address s.decoder.command }

/-- The polarity check of every EDGE, before anything else is looked at (R120, R121). -/
def edgeOp (dir : Dir) (s : State) (body : State) : State :=
  if wrongDirection s.cfg dir s.decoder.expected_dir then raiseResync .polarityViolation s else body

/-- One window tested: `onMatch` inside it, TimingMismatch outside (R126, R127, R130, R133). -/
def inWindow (w : Window) (ts : Nat) (s : State) (onMatch : State) : State :=
  if w.admits (intervalAt s ts) then onMatch else raiseResync .timingMismatch s

end Sys2Proof.Machine
end

