-- ==== Sys2Proof/Machine/BitGap.lean ====
section
/-! DEFINITION. EDGE.BIT_GAP, the 32 even steps 4 to 66 (spec/41_edge_operations.md R131): one rule, 32 rows of the
opcode table, each with a definition of its own. The bit decided is the one the stored `step` selects (R23). -/

namespace Sys2Proof.Machine

/-- What a gap does: ZERO accepts, ONE sets the bit and accepts in the same event, NEITHER is a TimingMismatch (R131). -/
def decideBit (ts : Nat) (s : State) : State :=
  match gapClass s.cfg (intervalAt s ts) with
  | .zero    => accept ts s
  | .one     => accept ts { s with decoder := s.decoder.setFrameBit (frameBitIndex s.decoder.step) }
  | .neither => raiseResync .timingMismatch s

/-- The gap that decides a data bit (R131). -/
def bitGap (dir : Dir) (ts : Nat) (s : State) : Host.Outcome State Fault Refusal :=
  .next (edgeOp dir s (decideBit ts s))

/-- EDGE.BIT_GAP.0, `step` = 4 (R131). -/
def execEdgeBitGap0 (dir : Dir) (ts : Nat) (s : State) : Host.Outcome State Fault Refusal :=
  bitGap dir ts s

/-- EDGE.BIT_GAP.1, `step` = 6 (R131). -/
def execEdgeBitGap1 (dir : Dir) (ts : Nat) (s : State) : Host.Outcome State Fault Refusal :=
  bitGap dir ts s

/-- EDGE.BIT_GAP.2, `step` = 8 (R131). -/
def execEdgeBitGap2 (dir : Dir) (ts : Nat) (s : State) : Host.Outcome State Fault Refusal :=
  bitGap dir ts s

/-- EDGE.BIT_GAP.3, `step` = 10 (R131). -/
def execEdgeBitGap3 (dir : Dir) (ts : Nat) (s : State) : Host.Outcome State Fault Refusal :=
  bitGap dir ts s

/-- EDGE.BIT_GAP.4, `step` = 12 (R131). -/
def execEdgeBitGap4 (dir : Dir) (ts : Nat) (s : State) : Host.Outcome State Fault Refusal :=
  bitGap dir ts s

/-- EDGE.BIT_GAP.5, `step` = 14 (R131). -/
def execEdgeBitGap5 (dir : Dir) (ts : Nat) (s : State) : Host.Outcome State Fault Refusal :=
  bitGap dir ts s

/-- EDGE.BIT_GAP.6, `step` = 16 (R131). -/
def execEdgeBitGap6 (dir : Dir) (ts : Nat) (s : State) : Host.Outcome State Fault Refusal :=
  bitGap dir ts s

/-- EDGE.BIT_GAP.7, `step` = 18 (R131). -/
def execEdgeBitGap7 (dir : Dir) (ts : Nat) (s : State) : Host.Outcome State Fault Refusal :=
  bitGap dir ts s

/-- EDGE.BIT_GAP.8, `step` = 20 (R131). -/
def execEdgeBitGap8 (dir : Dir) (ts : Nat) (s : State) : Host.Outcome State Fault Refusal :=
  bitGap dir ts s

/-- EDGE.BIT_GAP.9, `step` = 22 (R131). -/
def execEdgeBitGap9 (dir : Dir) (ts : Nat) (s : State) : Host.Outcome State Fault Refusal :=
  bitGap dir ts s

/-- EDGE.BIT_GAP.10, `step` = 24 (R131). -/
def execEdgeBitGap10 (dir : Dir) (ts : Nat) (s : State) : Host.Outcome State Fault Refusal :=
  bitGap dir ts s

/-- EDGE.BIT_GAP.11, `step` = 26 (R131). -/
def execEdgeBitGap11 (dir : Dir) (ts : Nat) (s : State) : Host.Outcome State Fault Refusal :=
  bitGap dir ts s

/-- EDGE.BIT_GAP.12, `step` = 28 (R131). -/
def execEdgeBitGap12 (dir : Dir) (ts : Nat) (s : State) : Host.Outcome State Fault Refusal :=
  bitGap dir ts s

/-- EDGE.BIT_GAP.13, `step` = 30 (R131). -/
def execEdgeBitGap13 (dir : Dir) (ts : Nat) (s : State) : Host.Outcome State Fault Refusal :=
  bitGap dir ts s

/-- EDGE.BIT_GAP.14, `step` = 32 (R131). -/
def execEdgeBitGap14 (dir : Dir) (ts : Nat) (s : State) : Host.Outcome State Fault Refusal :=
  bitGap dir ts s

/-- EDGE.BIT_GAP.15, `step` = 34 (R131). -/
def execEdgeBitGap15 (dir : Dir) (ts : Nat) (s : State) : Host.Outcome State Fault Refusal :=
  bitGap dir ts s

/-- EDGE.BIT_GAP.16, `step` = 36 (R131). -/
def execEdgeBitGap16 (dir : Dir) (ts : Nat) (s : State) : Host.Outcome State Fault Refusal :=
  bitGap dir ts s

/-- EDGE.BIT_GAP.17, `step` = 38 (R131). -/
def execEdgeBitGap17 (dir : Dir) (ts : Nat) (s : State) : Host.Outcome State Fault Refusal :=
  bitGap dir ts s

/-- EDGE.BIT_GAP.18, `step` = 40 (R131). -/
def execEdgeBitGap18 (dir : Dir) (ts : Nat) (s : State) : Host.Outcome State Fault Refusal :=
  bitGap dir ts s

/-- EDGE.BIT_GAP.19, `step` = 42 (R131). -/
def execEdgeBitGap19 (dir : Dir) (ts : Nat) (s : State) : Host.Outcome State Fault Refusal :=
  bitGap dir ts s

/-- EDGE.BIT_GAP.20, `step` = 44 (R131). -/
def execEdgeBitGap20 (dir : Dir) (ts : Nat) (s : State) : Host.Outcome State Fault Refusal :=
  bitGap dir ts s

/-- EDGE.BIT_GAP.21, `step` = 46 (R131). -/
def execEdgeBitGap21 (dir : Dir) (ts : Nat) (s : State) : Host.Outcome State Fault Refusal :=
  bitGap dir ts s

/-- EDGE.BIT_GAP.22, `step` = 48 (R131). -/
def execEdgeBitGap22 (dir : Dir) (ts : Nat) (s : State) : Host.Outcome State Fault Refusal :=
  bitGap dir ts s

/-- EDGE.BIT_GAP.23, `step` = 50 (R131). -/
def execEdgeBitGap23 (dir : Dir) (ts : Nat) (s : State) : Host.Outcome State Fault Refusal :=
  bitGap dir ts s

/-- EDGE.BIT_GAP.24, `step` = 52 (R131). -/
def execEdgeBitGap24 (dir : Dir) (ts : Nat) (s : State) : Host.Outcome State Fault Refusal :=
  bitGap dir ts s

/-- EDGE.BIT_GAP.25, `step` = 54 (R131). -/
def execEdgeBitGap25 (dir : Dir) (ts : Nat) (s : State) : Host.Outcome State Fault Refusal :=
  bitGap dir ts s

/-- EDGE.BIT_GAP.26, `step` = 56 (R131). -/
def execEdgeBitGap26 (dir : Dir) (ts : Nat) (s : State) : Host.Outcome State Fault Refusal :=
  bitGap dir ts s

/-- EDGE.BIT_GAP.27, `step` = 58 (R131). -/
def execEdgeBitGap27 (dir : Dir) (ts : Nat) (s : State) : Host.Outcome State Fault Refusal :=
  bitGap dir ts s

/-- EDGE.BIT_GAP.28, `step` = 60 (R131). -/
def execEdgeBitGap28 (dir : Dir) (ts : Nat) (s : State) : Host.Outcome State Fault Refusal :=
  bitGap dir ts s

/-- EDGE.BIT_GAP.29, `step` = 62 (R131). -/
def execEdgeBitGap29 (dir : Dir) (ts : Nat) (s : State) : Host.Outcome State Fault Refusal :=
  bitGap dir ts s

/-- EDGE.BIT_GAP.30, `step` = 64 (R131). -/
def execEdgeBitGap30 (dir : Dir) (ts : Nat) (s : State) : Host.Outcome State Fault Refusal :=
  bitGap dir ts s

/-- EDGE.BIT_GAP.31, `step` = 66 (R131). -/
def execEdgeBitGap31 (dir : Dir) (ts : Nat) (s : State) : Host.Outcome State Fault Refusal :=
  bitGap dir ts s

end Sys2Proof.Machine
end

