-- ==== Sys2Proof/Machine/BitPulse.lean ====
section
/-! DEFINITION. EDGE.BIT_PULSE, the 32 odd steps 3 to 65 (spec/41_edge_operations.md R130): one rule, 32 rows of the
opcode table, each with a definition of its own. -/

namespace Sys2Proof.Machine

/-- The pulse that opens a data bit: tested against BIT_PULSE, no accumulator written; nothing depends on which bit it
opens (R130). -/
def bitPulse (dir : Dir) (ts : Nat) (s : State) : Host.Outcome State Fault Refusal :=
  .next (edgeOp dir s (inWindow s.cfg.BIT_PULSE ts s (accept ts s)))

/-- EDGE.BIT_PULSE.0, `step` = 3 (R130). -/
def execEdgeBitPulse0 (dir : Dir) (ts : Nat) (s : State) : Host.Outcome State Fault Refusal :=
  bitPulse dir ts s

/-- EDGE.BIT_PULSE.1, `step` = 5 (R130). -/
def execEdgeBitPulse1 (dir : Dir) (ts : Nat) (s : State) : Host.Outcome State Fault Refusal :=
  bitPulse dir ts s

/-- EDGE.BIT_PULSE.2, `step` = 7 (R130). -/
def execEdgeBitPulse2 (dir : Dir) (ts : Nat) (s : State) : Host.Outcome State Fault Refusal :=
  bitPulse dir ts s

/-- EDGE.BIT_PULSE.3, `step` = 9 (R130). -/
def execEdgeBitPulse3 (dir : Dir) (ts : Nat) (s : State) : Host.Outcome State Fault Refusal :=
  bitPulse dir ts s

/-- EDGE.BIT_PULSE.4, `step` = 11 (R130). -/
def execEdgeBitPulse4 (dir : Dir) (ts : Nat) (s : State) : Host.Outcome State Fault Refusal :=
  bitPulse dir ts s

/-- EDGE.BIT_PULSE.5, `step` = 13 (R130). -/
def execEdgeBitPulse5 (dir : Dir) (ts : Nat) (s : State) : Host.Outcome State Fault Refusal :=
  bitPulse dir ts s

/-- EDGE.BIT_PULSE.6, `step` = 15 (R130). -/
def execEdgeBitPulse6 (dir : Dir) (ts : Nat) (s : State) : Host.Outcome State Fault Refusal :=
  bitPulse dir ts s

/-- EDGE.BIT_PULSE.7, `step` = 17 (R130). -/
def execEdgeBitPulse7 (dir : Dir) (ts : Nat) (s : State) : Host.Outcome State Fault Refusal :=
  bitPulse dir ts s

/-- EDGE.BIT_PULSE.8, `step` = 19 (R130). -/
def execEdgeBitPulse8 (dir : Dir) (ts : Nat) (s : State) : Host.Outcome State Fault Refusal :=
  bitPulse dir ts s

/-- EDGE.BIT_PULSE.9, `step` = 21 (R130). -/
def execEdgeBitPulse9 (dir : Dir) (ts : Nat) (s : State) : Host.Outcome State Fault Refusal :=
  bitPulse dir ts s

/-- EDGE.BIT_PULSE.10, `step` = 23 (R130). -/
def execEdgeBitPulse10 (dir : Dir) (ts : Nat) (s : State) : Host.Outcome State Fault Refusal :=
  bitPulse dir ts s

/-- EDGE.BIT_PULSE.11, `step` = 25 (R130). -/
def execEdgeBitPulse11 (dir : Dir) (ts : Nat) (s : State) : Host.Outcome State Fault Refusal :=
  bitPulse dir ts s

/-- EDGE.BIT_PULSE.12, `step` = 27 (R130). -/
def execEdgeBitPulse12 (dir : Dir) (ts : Nat) (s : State) : Host.Outcome State Fault Refusal :=
  bitPulse dir ts s

/-- EDGE.BIT_PULSE.13, `step` = 29 (R130). -/
def execEdgeBitPulse13 (dir : Dir) (ts : Nat) (s : State) : Host.Outcome State Fault Refusal :=
  bitPulse dir ts s

/-- EDGE.BIT_PULSE.14, `step` = 31 (R130). -/
def execEdgeBitPulse14 (dir : Dir) (ts : Nat) (s : State) : Host.Outcome State Fault Refusal :=
  bitPulse dir ts s

/-- EDGE.BIT_PULSE.15, `step` = 33 (R130). -/
def execEdgeBitPulse15 (dir : Dir) (ts : Nat) (s : State) : Host.Outcome State Fault Refusal :=
  bitPulse dir ts s

/-- EDGE.BIT_PULSE.16, `step` = 35 (R130). -/
def execEdgeBitPulse16 (dir : Dir) (ts : Nat) (s : State) : Host.Outcome State Fault Refusal :=
  bitPulse dir ts s

/-- EDGE.BIT_PULSE.17, `step` = 37 (R130). -/
def execEdgeBitPulse17 (dir : Dir) (ts : Nat) (s : State) : Host.Outcome State Fault Refusal :=
  bitPulse dir ts s

/-- EDGE.BIT_PULSE.18, `step` = 39 (R130). -/
def execEdgeBitPulse18 (dir : Dir) (ts : Nat) (s : State) : Host.Outcome State Fault Refusal :=
  bitPulse dir ts s

/-- EDGE.BIT_PULSE.19, `step` = 41 (R130). -/
def execEdgeBitPulse19 (dir : Dir) (ts : Nat) (s : State) : Host.Outcome State Fault Refusal :=
  bitPulse dir ts s

/-- EDGE.BIT_PULSE.20, `step` = 43 (R130). -/
def execEdgeBitPulse20 (dir : Dir) (ts : Nat) (s : State) : Host.Outcome State Fault Refusal :=
  bitPulse dir ts s

/-- EDGE.BIT_PULSE.21, `step` = 45 (R130). -/
def execEdgeBitPulse21 (dir : Dir) (ts : Nat) (s : State) : Host.Outcome State Fault Refusal :=
  bitPulse dir ts s

/-- EDGE.BIT_PULSE.22, `step` = 47 (R130). -/
def execEdgeBitPulse22 (dir : Dir) (ts : Nat) (s : State) : Host.Outcome State Fault Refusal :=
  bitPulse dir ts s

/-- EDGE.BIT_PULSE.23, `step` = 49 (R130). -/
def execEdgeBitPulse23 (dir : Dir) (ts : Nat) (s : State) : Host.Outcome State Fault Refusal :=
  bitPulse dir ts s

/-- EDGE.BIT_PULSE.24, `step` = 51 (R130). -/
def execEdgeBitPulse24 (dir : Dir) (ts : Nat) (s : State) : Host.Outcome State Fault Refusal :=
  bitPulse dir ts s

/-- EDGE.BIT_PULSE.25, `step` = 53 (R130). -/
def execEdgeBitPulse25 (dir : Dir) (ts : Nat) (s : State) : Host.Outcome State Fault Refusal :=
  bitPulse dir ts s

/-- EDGE.BIT_PULSE.26, `step` = 55 (R130). -/
def execEdgeBitPulse26 (dir : Dir) (ts : Nat) (s : State) : Host.Outcome State Fault Refusal :=
  bitPulse dir ts s

/-- EDGE.BIT_PULSE.27, `step` = 57 (R130). -/
def execEdgeBitPulse27 (dir : Dir) (ts : Nat) (s : State) : Host.Outcome State Fault Refusal :=
  bitPulse dir ts s

/-- EDGE.BIT_PULSE.28, `step` = 59 (R130). -/
def execEdgeBitPulse28 (dir : Dir) (ts : Nat) (s : State) : Host.Outcome State Fault Refusal :=
  bitPulse dir ts s

/-- EDGE.BIT_PULSE.29, `step` = 61 (R130). -/
def execEdgeBitPulse29 (dir : Dir) (ts : Nat) (s : State) : Host.Outcome State Fault Refusal :=
  bitPulse dir ts s

/-- EDGE.BIT_PULSE.30, `step` = 63 (R130). -/
def execEdgeBitPulse30 (dir : Dir) (ts : Nat) (s : State) : Host.Outcome State Fault Refusal :=
  bitPulse dir ts s

/-- EDGE.BIT_PULSE.31, `step` = 65 (R130). -/
def execEdgeBitPulse31 (dir : Dir) (ts : Nat) (s : State) : Host.Outcome State Fault Refusal :=
  bitPulse dir ts s

end Sys2Proof.Machine
end

