-- ==== Sys2Proof/Machine/Edge.lean ====
section
/-! DEFINITION. The EDGE operations outside the 64 bit steps (spec/41_edge_operations.md R125 to R127, R133, R135). -/

namespace Sys2Proof.Machine

/-- EDGE.AWAIT_START, `step` = 0: the first edge is accepted, no interval is computed (R125). -/
def execEdgeAwaitStart (dir : Dir) (ts : Nat) (s : State) : Host.Outcome State Fault Refusal :=
  .next (edgeOp dir s (accept ts s))

/-- EDGE.START_LOW, `step` = 1 (R126). -/
def execEdgeStartLow (dir : Dir) (ts : Nat) (s : State) : Host.Outcome State Fault Refusal :=
  .next (edgeOp dir s (inWindow s.cfg.START_LOW ts s (accept ts s)))

/-- EDGE.START_HIGH, `step` = 2 (R127). -/
def execEdgeStartHigh (dir : Dir) (ts : Nat) (s : State) : Host.Outcome State Fault Refusal :=
  .next (edgeOp dir s (inWindow s.cfg.START_HIGH ts s (accept ts s)))

/-- The frame validated: emitted if both byte pairs are complements, else a ComplementMismatch (R133). -/
def validateFrame (s : State) : State :=
  if s.decoder.complementOk then emitFrame s else raiseResync .complementMismatch s

/-- EDGE.STOP_PULSE, `step` = 67: the stop window first, then the complements, then the frame (R133). -/
def execEdgeStopPulse (dir : Dir) (ts : Nat) (s : State) : Host.Outcome State Fault Refusal :=
  .next (edgeOp dir s (inWindow s.cfg.STOP_PULSE ts s (validateFrame s)))

/-- A `step` outside the sequence: Resync, with no interval computed and no window tested (R135). -/
def badStep (dir : Dir) (s : State) : Host.Outcome State Fault Refusal :=
  .next (edgeOp dir s (raiseResync .unreachableStep s))

/-- EDGE.BAD_STEP, `step` 68 to 71 (R135). -/
def execEdgeBadStep68_71 (dir : Dir) (_ts : Nat) (s : State) : Host.Outcome State Fault Refusal :=
  badStep dir s

/-- EDGE.BAD_STEP, `step` 72 to 79 (R135). -/
def execEdgeBadStep72_79 (dir : Dir) (_ts : Nat) (s : State) : Host.Outcome State Fault Refusal :=
  badStep dir s

/-- EDGE.BAD_STEP, `step` 80 to 95 (R135). -/
def execEdgeBadStep80_95 (dir : Dir) (_ts : Nat) (s : State) : Host.Outcome State Fault Refusal :=
  badStep dir s

/-- EDGE.BAD_STEP, `step` 96 to 127 (R135). -/
def execEdgeBadStep96_127 (dir : Dir) (_ts : Nat) (s : State) : Host.Outcome State Fault Refusal :=
  badStep dir s

end Sys2Proof.Machine
end

