-- ==== Sys2Proof/Machine/HostEvents.lean ====
section
/-! DEFINITION. The events that are no edges (spec/42_host_operations.md R161 to R163). -/

namespace Sys2Proof.Machine

/-- NOP: answers Ack (R162). -/
def execNop (s : State) : Host.Outcome State Fault Refusal := .next (respond .ack s)

/-- POLL: one atomic read-and-clear of the mailbox (R161). -/
def execPoll (s : State) : Host.Outcome State Fault Refusal :=
  .next
    (if s.mailbox.frame_ready then
      respond (.pollSome s.mailbox.frame_address s.mailbox.frame_command) { s with mailbox := s.mailbox.take }
    else respond .pollNone s)

/-- RESET: DecoderState to `INIT` and the mailbox emptied, `cfg` unchanged (R163). -/
def execReset (s : State) : Host.Outcome State Fault Refusal :=
  .next (respond .ack { s with decoder := .INIT, mailbox := .EMPTY })

end Sys2Proof.Machine
end

