-- ==== Sys2Proof/Machine/Dispatch.lean ====
section
/-! DEFINITION. The meaning of every instruction: one arm per row of the opcode table, one call of its meaning. -/

namespace Sys2Proof.Machine

def exec (i : Instr) (s : State) : Host.Outcome State Fault Refusal :=
  match i with
  | .nop => Sys2Proof.Machine.execNop s
  | .edgeAwaitStart dir ts => Sys2Proof.Machine.execEdgeAwaitStart dir ts s
  | .edgeStartLow dir ts => Sys2Proof.Machine.execEdgeStartLow dir ts s
  | .edgeStartHigh dir ts => Sys2Proof.Machine.execEdgeStartHigh dir ts s
  | .edgeBitPulse0 dir ts => Sys2Proof.Machine.execEdgeBitPulse0 dir ts s
  | .edgeBitGap0 dir ts => Sys2Proof.Machine.execEdgeBitGap0 dir ts s
  | .edgeBitPulse1 dir ts => Sys2Proof.Machine.execEdgeBitPulse1 dir ts s
  | .edgeBitGap1 dir ts => Sys2Proof.Machine.execEdgeBitGap1 dir ts s
  | .edgeBitPulse2 dir ts => Sys2Proof.Machine.execEdgeBitPulse2 dir ts s
  | .edgeBitGap2 dir ts => Sys2Proof.Machine.execEdgeBitGap2 dir ts s
  | .edgeBitPulse3 dir ts => Sys2Proof.Machine.execEdgeBitPulse3 dir ts s
  | .edgeBitGap3 dir ts => Sys2Proof.Machine.execEdgeBitGap3 dir ts s
  | .edgeBitPulse4 dir ts => Sys2Proof.Machine.execEdgeBitPulse4 dir ts s
  | .edgeBitGap4 dir ts => Sys2Proof.Machine.execEdgeBitGap4 dir ts s
  | .edgeBitPulse5 dir ts => Sys2Proof.Machine.execEdgeBitPulse5 dir ts s
  | .edgeBitGap5 dir ts => Sys2Proof.Machine.execEdgeBitGap5 dir ts s
  | .edgeBitPulse6 dir ts => Sys2Proof.Machine.execEdgeBitPulse6 dir ts s
  | .edgeBitGap6 dir ts => Sys2Proof.Machine.execEdgeBitGap6 dir ts s
  | .edgeBitPulse7 dir ts => Sys2Proof.Machine.execEdgeBitPulse7 dir ts s
  | .edgeBitGap7 dir ts => Sys2Proof.Machine.execEdgeBitGap7 dir ts s
  | .edgeBitPulse8 dir ts => Sys2Proof.Machine.execEdgeBitPulse8 dir ts s
  | .edgeBitGap8 dir ts => Sys2Proof.Machine.execEdgeBitGap8 dir ts s
  | .edgeBitPulse9 dir ts => Sys2Proof.Machine.execEdgeBitPulse9 dir ts s
  | .edgeBitGap9 dir ts => Sys2Proof.Machine.execEdgeBitGap9 dir ts s
  | .edgeBitPulse10 dir ts => Sys2Proof.Machine.execEdgeBitPulse10 dir ts s
  | .edgeBitGap10 dir ts => Sys2Proof.Machine.execEdgeBitGap10 dir ts s
  | .edgeBitPulse11 dir ts => Sys2Proof.Machine.execEdgeBitPulse11 dir ts s
  | .edgeBitGap11 dir ts => Sys2Proof.Machine.execEdgeBitGap11 dir ts s
  | .edgeBitPulse12 dir ts => Sys2Proof.Machine.execEdgeBitPulse12 dir ts s
  | .edgeBitGap12 dir ts => Sys2Proof.Machine.execEdgeBitGap12 dir ts s
  | .edgeBitPulse13 dir ts => Sys2Proof.Machine.execEdgeBitPulse13 dir ts s
  | .edgeBitGap13 dir ts => Sys2Proof.Machine.execEdgeBitGap13 dir ts s
  | .edgeBitPulse14 dir ts => Sys2Proof.Machine.execEdgeBitPulse14 dir ts s
  | .edgeBitGap14 dir ts => Sys2Proof.Machine.execEdgeBitGap14 dir ts s
  | .edgeBitPulse15 dir ts => Sys2Proof.Machine.execEdgeBitPulse15 dir ts s
  | .edgeBitGap15 dir ts => Sys2Proof.Machine.execEdgeBitGap15 dir ts s
  | .edgeBitPulse16 dir ts => Sys2Proof.Machine.execEdgeBitPulse16 dir ts s
  | .edgeBitGap16 dir ts => Sys2Proof.Machine.execEdgeBitGap16 dir ts s
  | .edgeBitPulse17 dir ts => Sys2Proof.Machine.execEdgeBitPulse17 dir ts s
  | .edgeBitGap17 dir ts => Sys2Proof.Machine.execEdgeBitGap17 dir ts s
  | .edgeBitPulse18 dir ts => Sys2Proof.Machine.execEdgeBitPulse18 dir ts s
  | .edgeBitGap18 dir ts => Sys2Proof.Machine.execEdgeBitGap18 dir ts s
  | .edgeBitPulse19 dir ts => Sys2Proof.Machine.execEdgeBitPulse19 dir ts s
  | .edgeBitGap19 dir ts => Sys2Proof.Machine.execEdgeBitGap19 dir ts s
  | .edgeBitPulse20 dir ts => Sys2Proof.Machine.execEdgeBitPulse20 dir ts s
  | .edgeBitGap20 dir ts => Sys2Proof.Machine.execEdgeBitGap20 dir ts s
  | .edgeBitPulse21 dir ts => Sys2Proof.Machine.execEdgeBitPulse21 dir ts s
  | .edgeBitGap21 dir ts => Sys2Proof.Machine.execEdgeBitGap21 dir ts s
  | .edgeBitPulse22 dir ts => Sys2Proof.Machine.execEdgeBitPulse22 dir ts s
  | .edgeBitGap22 dir ts => Sys2Proof.Machine.execEdgeBitGap22 dir ts s
  | .edgeBitPulse23 dir ts => Sys2Proof.Machine.execEdgeBitPulse23 dir ts s
  | .edgeBitGap23 dir ts => Sys2Proof.Machine.execEdgeBitGap23 dir ts s
  | .edgeBitPulse24 dir ts => Sys2Proof.Machine.execEdgeBitPulse24 dir ts s
  | .edgeBitGap24 dir ts => Sys2Proof.Machine.execEdgeBitGap24 dir ts s
  | .edgeBitPulse25 dir ts => Sys2Proof.Machine.execEdgeBitPulse25 dir ts s
  | .edgeBitGap25 dir ts => Sys2Proof.Machine.execEdgeBitGap25 dir ts s
  | .edgeBitPulse26 dir ts => Sys2Proof.Machine.execEdgeBitPulse26 dir ts s
  | .edgeBitGap26 dir ts => Sys2Proof.Machine.execEdgeBitGap26 dir ts s
  | .edgeBitPulse27 dir ts => Sys2Proof.Machine.execEdgeBitPulse27 dir ts s
  | .edgeBitGap27 dir ts => Sys2Proof.Machine.execEdgeBitGap27 dir ts s
  | .edgeBitPulse28 dir ts => Sys2Proof.Machine.execEdgeBitPulse28 dir ts s
  | .edgeBitGap28 dir ts => Sys2Proof.Machine.execEdgeBitGap28 dir ts s
  | .edgeBitPulse29 dir ts => Sys2Proof.Machine.execEdgeBitPulse29 dir ts s
  | .edgeBitGap29 dir ts => Sys2Proof.Machine.execEdgeBitGap29 dir ts s
  | .edgeBitPulse30 dir ts => Sys2Proof.Machine.execEdgeBitPulse30 dir ts s
  | .edgeBitGap30 dir ts => Sys2Proof.Machine.execEdgeBitGap30 dir ts s
  | .edgeBitPulse31 dir ts => Sys2Proof.Machine.execEdgeBitPulse31 dir ts s
  | .edgeBitGap31 dir ts => Sys2Proof.Machine.execEdgeBitGap31 dir ts s
  | .edgeStopPulse dir ts => Sys2Proof.Machine.execEdgeStopPulse dir ts s
  | .edgeBadStep68_71 dir ts => Sys2Proof.Machine.execEdgeBadStep68_71 dir ts s
  | .edgeBadStep72_79 dir ts => Sys2Proof.Machine.execEdgeBadStep72_79 dir ts s
  | .edgeBadStep80_95 dir ts => Sys2Proof.Machine.execEdgeBadStep80_95 dir ts s
  | .edgeBadStep96_127 dir ts => Sys2Proof.Machine.execEdgeBadStep96_127 dir ts s
  | .poll => Sys2Proof.Machine.execPoll s
  | .reset => Sys2Proof.Machine.execReset s

end Sys2Proof.Machine
end

