-- ==== Sys2Proof/Machine/Fetch.lean ====
section
/-! DEFINITION. How an event reaches the block: the word on the port `ev`, taken from `pending`, and the decoded
instruction (spec/30_encoding.md R70, R71, R73). -/

namespace Sys2Proof.Machine

/-- The word on `ev`: the first pending one, and where the environment presents nothing the word 0, which is NOP, "the
absence of an event on a port that is sampled every slot" (spec/42_host_operations.md R162, log entry 5). -/
def State.evPort (s : State) : Nat := s.pending.headD 0

/-- The slot is over: the word presented in it is gone. -/
def State.consumed (s : State) : State := { s with pending := s.pending.tail }

/-- The stored `step` and the word on `ev`, decoded. -/
def fetch (s : State) : Except Reject Instr :=
  decode s.cfg.TS_WIDTH ⟨s.decoder.step, s.evPort⟩

/-- `step` and the port set so that the next fetch reads the table word `w`; words already pending come after it. -/
def State.present (s : State) (w : Nat) : State :=
  { s with
    decoder := { s.decoder with step := (tableWord s.cfg.TS_WIDTH w).step }
    pending := (tableWord s.cfg.TS_WIDTH w).ev :: s.pending }

end Sys2Proof.Machine
end

