-- ==== Sys2Proof/Machine/Step.lean ====
section
/-! DEFINITION. One step: the next event, performed as one atomic transition of the whole state
(spec/00_scope.md R8, spec/20_memory.md R54, R57). -/

namespace Sys2Proof.Machine

/-- Fetch and run; three outcomes. -/
def step (s : State) : Host.Outcome State Fault Refusal :=
  match fetch s with
  | .ok i                    => exec i s.consumed
  | .error .eventWordTooWide => .refused .eventWordTooWide

/-- `s` with the table word `w` as what the next step fetches (log entries 4 and 9). -/
def State.withFetchWord (s : State) (_nbits w : Nat) : State := s.present w

end Sys2Proof.Machine
end

