-- ==== Sys2Proof/Machine/Trace.lean ====
section
/-! DEFINITION. What stands in front of the block: the agents (spec/00_scope.md R7), the serialisation of coincident
requests (spec/20_memory.md R57), the pseudo-events that expand to EDGE events (spec/30_encoding.md R82), and the text
of a trace (R81). No step reads any of it. -/

namespace Sys2Proof

/-- The three agents (R7). -/
inductive Agent where
  | edgeSource
  | consumer
  | environment
deriving DecidableEq, Repr

/-- Which agent issues which event: a role of the integrator, which the block does not check (R7, R56, R195). -/
def Event.issuer : Event → Agent
  | .edge _ _ => .edgeSource
  | .poll     => .consumer
  | .reset    => .environment
  | .nop      => .environment

/-- The recommended order of requests made at the same instant: RESET, then POLL, then EDGE (R57). -/
def Trace.serialise (reset poll : Bool) (edge : Option (Nat × Dir)) : List Event :=
  (if reset then [.reset] else []) ++ (if poll then [.poll] else []) ++
    (match edge with
     | some (ts, dir) => [.edge ts dir]
     | none           => [])

namespace Trace

/-! ### Pseudo-events, R82 -/

/-- The cursor: timestamp of the last emitted edge, direction of the next one. -/
structure Cursor where
  t : Nat
  d : Dir
deriving DecidableEq, Repr

/-- `START t0` emits this; the cursor becomes `(t0, RISING)`. -/
def start (t0 : Nat) : Event × Cursor := (.edge t0 .falling, ⟨t0, .rising⟩)

/-- One `IVL n` with the cursor `(t, d)`: the edge and the cursor after it. -/
def ivl (W n : Nat) (c : Cursor) : Event × Cursor :=
  (.edge ((c.t + n) % 2 ^ W) c.d, ⟨(c.t + n) % 2 ^ W, c.d.flip⟩)

/-- A sequence of `IVL`. -/
def ivls (W : Nat) : List Nat → Cursor → List Event
  | [],      _ => []
  | n :: ns, c => (ivl W n c).1 :: ivls W ns (ivl W n c).2

/-- The intervals of `BIT0` and `BIT1`. -/
def bit (cfg : Cfg) (b : Bool) : List Nat :=
  [cfg.BIT_PULSE.T, if b then cfg.BIT_ONE_GAP.T else cfg.BIT_ZERO_GAP.T]

/-- The intervals of `BYTE b`: bits 0 to 7 in that order. -/
def byte (cfg : Cfg) (b : Byte) : List Nat :=
  (List.range 8).flatMap fun k => bit cfg (b.getLsbD k)

/-- A start edge and the edges that end the given intervals. -/
def edges (W : Nat) (t0 : Nat) (ns : List Nat) : List Event :=
  (start t0).1 :: ivls W ns (start t0).2

/-- `FRAME t0, a, ai, c, ci`: 68 EDGE events (R82, R77). -/
def frame (cfg : Cfg) (t0 : Nat) (a ai c ci : Byte) : List Event :=
  edges cfg.TS_WIDTH t0
    ([cfg.START_LOW.T, cfg.START_HIGH.T] ++ byte cfg a ++ byte cfg ai ++ byte cfg c ++ byte cfg ci ++
      [cfg.STOP_PULSE.T])

/-- `NECFRAME t0, a, c`. -/
def necframe (cfg : Cfg) (t0 : Nat) (a c : Byte) : List Event := frame cfg t0 a (~~~a) c (~~~c)

/-! ### Text, R81 -/

def hexDigit (n : Nat) : Char := if n < 10 then Char.ofNat (48 + n) else Char.ofNat (55 + n)

/-- A byte as `0x` and two hexadecimal digits. -/
def hexByte (b : Byte) : String :=
  "0x" ++ String.singleton (hexDigit (b.toNat / 16)) ++ String.singleton (hexDigit (b.toNat % 16))

def dirLetter : Dir → String
  | .falling => "F"
  | .rising  => "R"

def dirWord : Dir → String
  | .falling => "FALLING"
  | .rising  => "RISING"

/-- One event of a trace. -/
def eventText : Event → String
  | .nop         => "NOP"
  | .edge ts dir => "EDGE " ++ toString ts ++ " " ++ dirLetter dir
  | .poll        => "POLL"
  | .reset       => "RESET"

/-- A response, as it stands after `->`. -/
def responseText : Response → String
  | .ack            => "Ack"
  | .pending        => "Pending"
  | .frameReady a c => "FrameReady(" ++ hexByte a ++ ", " ++ hexByte c ++ ")"
  | .resync         => "Resync"
  | .pollNone       => "PollNone"
  | .pollSome a c   => "PollSome(" ++ hexByte a ++ ", " ++ hexByte c ++ ")"

/-- A state, every field written. -/
def stateText (d : DecoderState) (m : Mailbox) : String :=
  String.singleton (Char.ofNat 123) ++ "step=" ++ toString d.step.toNat ++ ", last_ts=" ++ toString d.last_ts ++
  ", address=" ++ hexByte d.address ++ ", address_inverse=" ++ hexByte d.address_inverse ++
  ", command=" ++ hexByte d.command ++ ", command_inverse=" ++ hexByte d.command_inverse ++
  ", expected_dir=" ++ dirWord d.expected_dir ++ "; frame_ready=" ++ (if m.frame_ready then "1" else "0") ++
  ", frame_address=" ++ hexByte m.frame_address ++ ", frame_command=" ++ hexByte m.frame_command ++
  String.singleton (Char.ofNat 125)

end Trace

/-- The events presented on `ev` as words, after the words already pending (R70, R71). -/
def Machine.State.withEvents (s : Machine.State) (es : List Event) : Machine.State :=
  { s with pending := s.pending ++ es.map (encodeEvent s.cfg.TS_WIDTH) }

end Sys2Proof
end

