-- ==== Sys2Proof/Safety.lean ====
section
/-! DEFINITION. What the rules promise of a run: the invariants of spec/10_state.md R32, the width of what is stored
and presented (R20, spec/30_encoding.md R70), what the environment owes (spec/70_reset_and_hazards.md R221, R222), and
the events of a run. -/

namespace Sys2Proof.Machine

/-- `n` events, one after the other (spec/20_memory.md R57): the host's run of the core, at this machine's own types. -/
def run (n : Nat) (s : State) : Host.Outcome State Fault Refusal := Host.Core.run Sys2Proof.core n s

/-- The word presents an EDGE (spec/30_encoding.md R71). -/
def isEdgeWord (W ev : Nat) : Bool :=
  match decodeEvent W ev with
  | .ok (.edge _ _) => true
  | _               => false

/-- How many EDGE events the first `n` slots present; the other slots are NOP, POLL, RESET or empty. -/
def edgesIn (n : Nat) (s : State) : Nat := (s.pending.take n).countP (isEdgeWord s.cfg.TS_WIDTH)

/-- `n`, the number of gap steps already passed at a `step` (R32 item 3). -/
def gapsPassed (step : StepReg) : Nat := (step.toNat - 3) / 2

/-- Items 1 to 4 of R32, of DecoderState. -/
structure DecoderInv (d : DecoderState) : Prop where
  /-- 0 ≤ `step` ≤ 67. -/
  step_le     : d.step.toNat ≤ 67
  /-- FALLING at an even `step`, RISING at an odd one. -/
  direction   : d.expected_dir = if d.step.toNat % 2 = 0 then Dir.falling else Dir.rising
  /-- Only the bits already decided can be 1. -/
  undecided   : ∀ i, gapsPassed d.step ≤ i → i < 32 → d.frame.getLsbD i = false
  /-- `step` = 0 is `INIT`. -/
  idle        : d.step = 0 → d = .INIT

/-- The timestamp stored has `TS_WIDTH` bits, and each pending word is an event word of `TS_WIDTH + 3` bits
(R20, spec/30_encoding.md R70). -/
structure WidthInv (s : State) : Prop where
  last_ts_fits  : s.decoder.last_ts < 2 ^ s.cfg.TS_WIDTH
  pending_fits  : ∀ ev ∈ s.pending, ev < 2 ^ (s.cfg.TS_WIDTH + 3)

/-- An EDGE row of the opcode table, and its operands. -/
def isEdge (i : Instr) (ts : Nat) (dir : Dir) : Prop := instrEvent i = .edge ts dir

/-- The polarity check lets an edge pass (spec/41_edge_operations.md R121). -/
def polarityPasses (s : State) (dir : Dir) : Prop :=
  s.cfg.POLARITY_STRICT = true → dir = s.decoder.expected_dir

/-- What a filtering edge source owes in trust mode: only edges of the direction shown on `expected_dir`
(spec/70_reset_and_hazards.md R214 item 4, R222). -/
def filtered (s : State) (dir : Dir) : Prop := dir = s.levelOutputs.expected_dir

/-- The edge contract, for the true times of successive edges: strictly increasing, each `ts` that time modulo `2 ^ W`
(spec/30_encoding.md R72, spec/70_reset_and_hazards.md R221). -/
def edgeContract (W : Nat) (times : List Nat) (stamps : List Nat) : Prop :=
  times.Pairwise (· < ·) ∧ stamps = times.map (· % 2 ^ W)

/-- The intervals of one frame: the two start intervals, 32 pairs of a pulse and a gap, the stop pulse
(spec/30_encoding.md R77). -/
def frameIntervals (low high : Nat) (pulse gap : Nat → Nat) (stop : Nat) : List Nat :=
  [low, high] ++ ((List.range 32).flatMap fun k => [pulse k, gap k]) ++ [stop]

end Sys2Proof.Machine
end

