-- ==== Sys2Proof/Certificates/Slice0/Obligations.lean ====
section
/-! DEFINITION. The statements for the provers. Each cites the rule of spec/ it formalises. A rule's `respond X` is the
field `resp`; the field `cause` is the model's own label (log entry 8). Statements about `exec` are about every state,
reachable or not. -/

open Sys2Proof Sys2Proof.Machine

/-! ### Reset -/

/-- R210, R30, R31: the values after power-on. The fields `cfg`, `pending`, `resp` and `cause` are left out: their values
are the model's (log entries 1, 2, 4, 7, 8). -/
def Obligations.ResetStateHoldsTheStatedValues : Prop :=
  State.reset.decoder =
    { step := 0, last_ts := 0, address := 0, address_inverse := 0, command := 0, command_inverse := 0,
      expected_dir := .falling } ∧
  State.reset.mailbox = { frame_ready := false, frame_address := 0, frame_command := 0 }

/-! ### The events that are no edges -/

/-- R162: NOP answers Ack and changes nothing. -/
def Obligations.NopAnswersAckAndChangesNothing : Prop :=
  ∀ s : State, exec .nop s = .next { s with resp := .ack, cause := none }

/-- R161: POLL takes the frame if there is one; DecoderState is not written, the data fields keep their values. -/
def Obligations.PollReadsAndClearsTheMailbox : Prop :=
  ∀ s : State, exec .poll s = .next
    (if s.mailbox.frame_ready = true then
      { s with
        mailbox := { s.mailbox with frame_ready := false }
        resp := .pollSome s.mailbox.frame_address s.mailbox.frame_command
        cause := none }
    else { s with resp := .pollNone, cause := none })

/-- R163: RESET from any state. -/
def Obligations.ResetEventClearsDecoderAndMailbox : Prop :=
  ∀ s : State, exec .reset s = .next
    { s with
      decoder := { step := 0, last_ts := 0, address := 0, address_inverse := 0, command := 0, command_inverse := 0,
                   expected_dir := .falling }
      mailbox := { frame_ready := false, frame_address := 0, frame_command := 0 }
      resp := .ack
      cause := none }

/-! ### The EDGE operations, once the polarity check has passed -/

/-- R125: at `step` 0 every edge is accepted, whatever `last_ts` and `ts` are. -/
def Obligations.AwaitStartAcceptsTheFirstEdge : Prop :=
  ∀ (dir : Dir) (ts : Nat) (s : State), s.decoder.step = 0 → polarityPasses s dir →
    exec (.edgeAwaitStart dir ts) s = .next
      { s with
        decoder := { s.decoder with step := 1, last_ts := ts, expected_dir := s.decoder.expected_dir.flip }
        resp := .pending
        cause := none }

/-- R126: the start pulse. -/
def Obligations.StartLowTestsTheLeadingPulse : Prop :=
  ∀ (dir : Dir) (ts : Nat) (s : State), s.decoder.step = 1 → polarityPasses s dir →
    exec (.edgeStartLow dir ts) s = .next
      (if s.cfg.START_LOW.admits (interval s.cfg.TS_WIDTH s.decoder.last_ts ts) = true then
        { s with
          decoder := { s.decoder with step := 2, last_ts := ts, expected_dir := s.decoder.expected_dir.flip }
          resp := .pending
          cause := none }
      else { s with decoder := .INIT, resp := .resync, cause := some .timingMismatch })

/-- R127: the gap after the start pulse. -/
def Obligations.StartHighTestsTheLeadingGap : Prop :=
  ∀ (dir : Dir) (ts : Nat) (s : State), s.decoder.step = 2 → polarityPasses s dir →
    exec (.edgeStartHigh dir ts) s = .next
      (if s.cfg.START_HIGH.admits (interval s.cfg.TS_WIDTH s.decoder.last_ts ts) = true then
        { s with
          decoder := { s.decoder with step := 3, last_ts := ts, expected_dir := s.decoder.expected_dir.flip }
          resp := .pending
          cause := none }
      else { s with decoder := .INIT, resp := .resync, cause := some .timingMismatch })

/-- R130: all 32 rows EDGE.BIT_PULSE.0 to .31 (`bitPulseRow k` is the constructor edgeBitPulse`k`), at their odd steps. -/
def Obligations.BitPulseTestsEveryDataPulse : Prop :=
  ∀ (k : Nat) (dir : Dir) (ts : Nat) (s : State), k < 32 → s.decoder.step = BitVec.ofNat 7 (3 + 2 * k) →
    polarityPasses s dir →
    exec (bitPulseRow k dir ts) s = .next
      (if s.cfg.BIT_PULSE.admits (interval s.cfg.TS_WIDTH s.decoder.last_ts ts) = true then
        { s with
          decoder := { s.decoder with
            step := BitVec.ofNat 7 (4 + 2 * k), last_ts := ts, expected_dir := s.decoder.expected_dir.flip }
          resp := .pending
          cause := none }
      else { s with decoder := .INIT, resp := .resync, cause := some .timingMismatch })

/-- R131: all 32 rows EDGE.BIT_GAP.0 to .31 (`bitGapRow k` is the constructor edgeBitGap`k`), at their even steps, with
the accumulator and the bit that R131's pseudocode names. -/
def Obligations.BitGapDecidesEveryDataBit : Prop :=
  ∀ (k : Nat) (dir : Dir) (ts : Nat) (s : State), k < 32 → s.decoder.step = BitVec.ofNat 7 (4 + 2 * k) →
    polarityPasses s dir →
    let moved : DecoderState := { s.decoder with
      step := BitVec.ofNat 7 (5 + 2 * k), last_ts := ts, expected_dir := s.decoder.expected_dir.flip }
    let one : Byte := BitVec.ofNat 8 (2 ^ (k % 8))
    exec (bitGapRow k dir ts) s = .next
      (match gapClass s.cfg (interval s.cfg.TS_WIDTH s.decoder.last_ts ts) with
       | .zero => { s with decoder := moved, resp := .pending, cause := none }
       | .one =>
         { s with
           decoder :=
             (if k < 8 then { moved with address := s.decoder.address ||| one }
              else if k < 16 then { moved with address_inverse := s.decoder.address_inverse ||| one }
              else if k < 24 then { moved with command := s.decoder.command ||| one }
              else { moved with command_inverse := s.decoder.command_inverse ||| one })
           resp := .pending
           cause := none }
       | .neither => { s with decoder := .INIT, resp := .resync, cause := some .timingMismatch })

/-- R133: stop pulse, complement check, frame emission; an unread frame is overwritten. -/
def Obligations.StopPulseDeliversOrDiscardsTheFrame : Prop :=
  ∀ (dir : Dir) (ts : Nat) (s : State), s.decoder.step = 67 → polarityPasses s dir →
    exec (.edgeStopPulse dir ts) s = .next
      (if s.cfg.STOP_PULSE.admits (interval s.cfg.TS_WIDTH s.decoder.last_ts ts) = false then
        { s with decoder := .INIT, resp := .resync, cause := some .timingMismatch }
      else if s.decoder.address = ~~~s.decoder.address_inverse ∧ s.decoder.command = ~~~s.decoder.command_inverse then
        { s with
          decoder := .INIT
          mailbox :=
            { frame_ready := true, frame_address := s.decoder.address, frame_command := s.decoder.command }
          resp := .frameReady s.decoder.address s.decoder.command
          cause := none }
      else { s with decoder := .INIT, resp := .resync, cause := some .complementMismatch })

/-- R135: the four rows EDGE.BAD_STEP.68_71, .72_79, .80_95 and .96_127. -/
def Obligations.BadStepAlwaysResyncs : Prop :=
  ∀ (dir : Dir) (ts : Nat) (s : State) (i : Instr), 68 ≤ s.decoder.step.toNat → polarityPasses s dir →
    i ∈ [Instr.edgeBadStep68_71 dir ts, .edgeBadStep72_79 dir ts, .edgeBadStep80_95 dir ts,
         .edgeBadStep96_127 dir ts] →
    exec i s = .next { s with decoder := .INIT, resp := .resync, cause := some .unreachableStep }

/-! ### The polarity check -/

/-- R121, the failing case, for every EDGE row at any `step`: nothing else is looked at. -/
def Obligations.WrongDirectionEdgeResyncsInStrictMode : Prop :=
  ∀ (i : Instr) (ts : Nat) (dir : Dir) (s : State), isEdge i ts dir →
    s.cfg.POLARITY_STRICT = true → dir ≠ s.decoder.expected_dir →
    exec i s = .next { s with decoder := .INIT, resp := .resync, cause := some .polarityViolation }

/-- R184: PolarityViolation exactly in strict mode with the wrong direction, at any `step`; never in trust mode. -/
def Obligations.PolarityViolationExactlyWhenStrictAndWrong : Prop :=
  ∀ (i : Instr) (ts : Nat) (dir : Dir) (s t : State), isEdge i ts dir → exec i s = .next t →
    (t.cause = some .polarityViolation ↔ (s.cfg.POLARITY_STRICT = true ∧ dir ≠ s.decoder.expected_dir))

/-- R121, trust mode: `dir` is not read, whatever the `step`. -/
def Obligations.TrustModeNeverReadsDirection : Prop :=
  ∀ (step : StepReg) (ts : Nat) (d₁ d₂ : Dir) (s : State), s.cfg.POLARITY_STRICT = false →
    exec (edgeRow step d₁ ts) s = exec (edgeRow step d₂ ts) s

/-- R222: on an edge of the direction shown on `expected_dir`, strict mode and trust mode give the same result. -/
def Obligations.FilteredTrustModeEqualsStrictMode : Prop :=
  ∀ (i : Instr) (ts : Nat) (dir : Dir) (s t : State), isEdge i ts dir → filtered s dir →
    exec i { s with cfg := { s.cfg with POLARITY_STRICT := false } } = .next t →
    exec i { s with cfg := { s.cfg with POLARITY_STRICT := true } } =
      .next { t with cfg := { s.cfg with POLARITY_STRICT := true } }

/-! ### Resync -/

/-- R190: whatever raised it, a Resync is the same transition: DecoderState `INIT`, nothing else written but the response
(and the label), and only an EDGE raises it (R180). -/
def Obligations.ResyncRestoresInitAndKeepsTheMailbox : Prop :=
  ∀ (i : Instr) (s t : State), exec i s = .next t → t.resp = .resync →
    (∃ ts dir, isEdge i ts dir) ∧
    ∃ c, t = { s with
      decoder := { step := 0, last_ts := 0, address := 0, address_inverse := 0, command := 0, command_inverse := 0,
                   expected_dir := .falling }
      resp := .resync
      cause := some c }

/-- R186, with the conditions of R182 to R185: the label an EDGE leaves is that of the first failing check, and there is
none exactly when no check fails. -/
def Obligations.CauseIsTheFirstFailingCheck : Prop :=
  ∀ (ts : Nat) (dir : Dir) (s t : State), exec (edgeRow s.decoder.step dir ts) s = .next t →
    let n := s.decoder.step.toNat
    let d := interval s.cfg.TS_WIDTH s.decoder.last_ts ts
    t.cause =
      (if s.cfg.POLARITY_STRICT = true ∧ dir ≠ s.decoder.expected_dir then some Cause.polarityViolation
       else if 68 ≤ n then some .unreachableStep
       else if (n = 1 ∧ s.cfg.START_LOW.admits d = false) ∨ (n = 2 ∧ s.cfg.START_HIGH.admits d = false) ∨
               (3 ≤ n ∧ n ≤ 65 ∧ n % 2 = 1 ∧ s.cfg.BIT_PULSE.admits d = false) ∨
               (4 ≤ n ∧ n ≤ 66 ∧ n % 2 = 0 ∧ gapClass s.cfg d = .neither) ∨
               (n = 67 ∧ s.cfg.STOP_PULSE.admits d = false) then some .timingMismatch
       else if n = 67 ∧ ¬ (s.decoder.address = ~~~s.decoder.address_inverse ∧
                           s.decoder.command = ~~~s.decoder.command_inverse) then some .complementMismatch
       else none)

/-- R181: the label has no influence on anything later, and neither has the response of the event before. The two fields
are the model's (log entries 7 and 8). -/
def Obligations.CauseAndResponseAreNeverRead : Prop :=
  ∀ (s : State) (c : Option Cause) (r : Response), step { s with cause := c, resp := r } = step s

/-! ### EDGE as a whole -/

/-- R139 for EDGE, R161 to R163 for the other events: every instruction, in every state, has a next state. That nothing
stops the block outside EDGE is read from those rules (log entry 10, DEDUCED). -/
def Obligations.EveryInstructionHasANextState : Prop :=
  ∀ (i : Instr) (s : State), ∃ t, exec i s = .next t

/-- R122 and R131 together: what an EDGE that answers Pending leaves, and what it leaves alone. Only a one gap touches an
accumulator, and then one bit. -/
def Obligations.AcceptedEdgeAdvancesByOne : Prop :=
  ∀ (ts : Nat) (dir : Dir) (s t : State), exec (edgeRow s.decoder.step dir ts) s = .next t → t.resp = .pending →
    let n := s.decoder.step.toNat
    n ≤ 66 ∧ t.decoder.step.toNat = n + 1 ∧ t.decoder.last_ts = ts ∧
    t.decoder.expected_dir = s.decoder.expected_dir.flip ∧
    t.mailbox = s.mailbox ∧ t.cfg = s.cfg ∧ t.pending = s.pending ∧
    ∀ j, j < 32 → t.decoder.frame.getLsbD j =
      (s.decoder.frame.getLsbD j || decide (4 ≤ n ∧ n = 4 + 2 * j ∧
        gapClass s.cfg (interval s.cfg.TS_WIDTH s.decoder.last_ts ts) = .one))

/-- R78, second sentence: which responses each event can give. -/
def Obligations.ResponsesEachEventCanGive : Prop :=
  ∀ (i : Instr) (s t : State), exec i s = .next t →
    match instrEvent i with
    | .nop      => t.resp = .ack
    | .reset    => t.resp = .ack
    | .edge _ _ => t.resp = .pending ∨ t.resp = .resync ∨ ∃ a c, t.resp = .frameReady a c
    | .poll     => t.resp = .pollNone ∨ ∃ a c, t.resp = .pollSome a c

/-- R29, R106, R133 read backwards: a FrameReady response means a stop pulse in its window and two pairs of complements,
and the mailbox then holds that very frame. -/
def Obligations.FrameReadyOnlyForAValidFrame : Prop :=
  ∀ (i : Instr) (s t : State) (a c : Byte), exec i s = .next t → t.resp = .frameReady a c →
    ∃ dir ts, i = .edgeStopPulse dir ts ∧ polarityPasses s dir ∧
      s.cfg.STOP_PULSE.admits (interval s.cfg.TS_WIDTH s.decoder.last_ts ts) = true ∧
      s.decoder.address = a ∧ s.decoder.address_inverse = ~~~a ∧
      s.decoder.command = c ∧ s.decoder.command_inverse = ~~~c ∧
      t.mailbox = { frame_ready := true, frame_address := a, frame_command := c } ∧ t.decoder = .INIT

/-- R58 items 4 and 5: an EDGE's response and the DecoderState after it depend on `cfg`, DecoderState and the event
alone: not on the mailbox, what is pending, or the responses before. -/
def Obligations.EdgeDependsOnConfigAndDecoderOnly : Prop :=
  ∀ (i : Instr) (ts : Nat) (dir : Dir) (s₁ s₂ t₁ t₂ : State), isEdge i ts dir →
    s₁.cfg = s₂.cfg → s₁.decoder = s₂.decoder → exec i s₁ = .next t₁ → exec i s₂ = .next t₂ →
    t₁.resp = t₂.resp ∧ t₁.decoder = t₂.decoder

/-- R101's "differences between consecutive edges, never absolute values": moving `last_ts` and `ts` by the same amount
modulo `2 ^ W` changes nothing but the timestamp stored. -/
def Obligations.OnlyTimeDifferencesMatter : Prop :=
  ∀ (ts c : Nat) (dir : Dir) (s t : State), exec (edgeRow s.decoder.step dir ts) s = .next t →
    let W := s.cfg.TS_WIDTH
    exec (edgeRow s.decoder.step dir ((ts + c) % 2 ^ W))
        { s with decoder := { s.decoder with last_ts := (s.decoder.last_ts + c) % 2 ^ W } } =
      .next (if t.resp = .pending then { t with decoder := { t.decoder with last_ts := (ts + c) % 2 ^ W } } else t)

/-! ### The classifier and the arithmetic -/

/-- R101: W-bit wrapping subtraction of two W-bit timestamps. -/
def Obligations.IntervalIsWrappingSubtraction : Prop :=
  ∀ W last ts : Nat, last < 2 ^ W → ts < 2 ^ W →
    interval W last ts = (if last ≤ ts then ts - last else ts + 2 ^ W - last) ∧ interval W last ts < 2 ^ W

/-- R220: with true times that grow, as the edge contract says, the block sees the elapsed time modulo `2 ^ W`. -/
def Obligations.IntervalIsElapsedTimeModuloTheCounter : Prop :=
  ∀ W t₁ t₂ last ts : Nat, edgeContract W [t₁, t₂] [last, ts] → interval W last ts = (t₂ - t₁) % 2 ^ W

/-- R102: the open window over the integers, with its corner cases. -/
def Obligations.WindowIsOpenOnBothSides : Prop :=
  ∀ (w : Window) (d : Nat),
    (w.admits d = true ↔ (w.T : Int) - w.TOL < d ∧ (d : Int) < (w.T : Int) + w.TOL) ∧
    (w.TOL = 0 → w.admits d = false) ∧
    (w.TOL = 1 → (w.admits d = true ↔ d = w.T)) ∧
    w.admits (w.T + w.TOL) = false ∧
    (w.TOL ≤ w.T → w.admits (w.T - w.TOL) = false) ∧
    (1 ≤ w.TOL → w.admits w.T = true)

/-- R103: the intervals the six default windows accept. -/
def Obligations.DefaultWindowsAcceptTheTabledIntervals : Prop :=
  ∀ d : Nat,
    (Cfg.defaults.START_LOW.admits d = true ↔ 8801 ≤ d ∧ d ≤ 9199) ∧
    (Cfg.defaults.START_HIGH.admits d = true ↔ 4301 ≤ d ∧ d ≤ 4699) ∧
    (Cfg.defaults.BIT_PULSE.admits d = true ↔ 971 ≤ d ∧ d ≤ 1269) ∧
    (Cfg.defaults.BIT_ZERO_GAP.admits d = true ↔ 971 ≤ d ∧ d ≤ 1269) ∧
    (Cfg.defaults.BIT_ONE_GAP.admits d = true ↔ 3081 ≤ d ∧ d ≤ 3679) ∧
    (Cfg.defaults.STOP_PULSE.admits d = true ↔ 971 ≤ d ∧ d ≤ 1269)

/-- R104: multiplying the twelve numbers and the interval by the same ratio changes no answer of the classifier. -/
def Obligations.ClassifierScalesWithTheTickRate : Prop :=
  ∀ (r : Nat) (c : Cfg) (d : Nat), 0 < r →
    (c.scale r).START_LOW.admits (r * d) = c.START_LOW.admits d ∧
    (c.scale r).START_HIGH.admits (r * d) = c.START_HIGH.admits d ∧
    (c.scale r).BIT_PULSE.admits (r * d) = c.BIT_PULSE.admits d ∧
    gapClass (c.scale r) (r * d) = gapClass c d ∧
    (c.scale r).STOP_PULSE.admits (r * d) = c.STOP_PULSE.admits d

/-- R105: exactly one of the two windows must match; a gap in both is NEITHER. -/
def Obligations.GapClassNeedsExactlyOneWindow : Prop :=
  ∀ (c : Cfg) (d : Nat),
    (gapClass c d = .zero ↔ c.BIT_ZERO_GAP.admits d = true ∧ c.BIT_ONE_GAP.admits d = false) ∧
    (gapClass c d = .one ↔ c.BIT_ONE_GAP.admits d = true ∧ c.BIT_ZERO_GAP.admits d = false) ∧
    (gapClass c d = .neither ↔ c.BIT_ZERO_GAP.admits d = c.BIT_ONE_GAP.admits d)

/-- R106: the complement check and its two equivalent forms. -/
def Obligations.ComplementCheckHasThreeForms : Prop :=
  ∀ d : DecoderState,
    (d.complementOk = true ↔ d.address = ~~~d.address_inverse ∧ d.command = ~~~d.command_inverse) ∧
    (d.complementOk = true ↔ d.address ^^^ d.address_inverse = 0xFF ∧ d.command ^^^ d.command_inverse = 0xFF) ∧
    (d.complementOk = true ↔ d.address.toNat + d.address_inverse.toNat = 255 ∧
      d.command.toNat + d.command_inverse.toNat = 255)

/-- R108: one bit set, no bit cleared, nothing changed where the bit is 1 already. -/
def Obligations.SetBitSetsOneBitAndClearsNone : Prop :=
  ∀ (acc : Byte) (k : Nat), k < 8 →
    (∀ j, j < 8 → (setBit acc k).getLsbD j = (acc.getLsbD j || decide (j = k))) ∧
    (acc.getLsbD k = true → setBit acc k = acc)

/-- R23, R51, R76: the gap step `4 + 2k` decides frame bit `k` of the 32, the least significant bit of the first byte
first, and no other field moves. -/
def Obligations.GapStepSelectsItsFrameBit : Prop :=
  ∀ (d : DecoderState) (k : Nat), k < 32 → d.step = BitVec.ofNat 7 (4 + 2 * k) →
    let e := d.setFrameBit (frameBitIndex d.step)
    frameBitIndex d.step = k ∧
    (∀ j, j < 8 → e.address.getLsbD j = (d.address.getLsbD j || decide (k = j))) ∧
    (∀ j, j < 8 → e.address_inverse.getLsbD j = (d.address_inverse.getLsbD j || decide (k = 8 + j))) ∧
    (∀ j, j < 8 → e.command.getLsbD j = (d.command.getLsbD j || decide (k = 16 + j))) ∧
    (∀ j, j < 8 → e.command_inverse.getLsbD j = (d.command_inverse.getLsbD j || decide (k = 24 + j))) ∧
    e.step = d.step ∧ e.last_ts = d.last_ts ∧ e.expected_dir = d.expected_dir

/-! ### Encodings -/

/-- R71: the fields of an event word; `dir` and `ts` are ignored but for EDGE. -/
def Obligations.EventWordFieldsAreReadAsTabled : Prop :=
  ∀ W kind dirBit ts : Nat, kind < 4 → dirBit < 2 → ts < 2 ^ W →
    decodeEvent W (kind * 2 ^ (W + 1) + dirBit * 2 ^ W + ts) =
      .ok (if kind = 0 then .nop
           else if kind = 1 then .edge ts (if dirBit = 0 then .falling else .rising)
           else if kind = 2 then .poll
           else .reset)

/-- R71, R79 item 2, and log entry 6: a number is an event word exactly when it has at most `W + 3` bits, and each event
word decodes to an event whose timestamp has `W` bits. -/
def Obligations.EveryEventWordDecodes : Prop :=
  ∀ W ev : Nat,
    (ev < 2 ^ (W + 3) → ∃ e, decodeEvent W ev = .ok e ∧ e.wf W = true) ∧
    (2 ^ (W + 3) ≤ ev → decodeEvent W ev = .error .eventWordTooWide)

/-- R73: the decoder's map and the `match` and `mask` columns of the opcode table agree: an instruction's row covers the
key of an event at a `step` exactly when the decoder gives that instruction. -/
def Obligations.EachKeySelectsExactlyOneRow : Prop :=
  ∀ (step : StepReg) (e : Event) (i : Instr),
    (instrEvent i = e ∧ (keyRow i).covers (dispatchKey step e) = true) ↔ i = dispatch step e

/-- Decode and encode agree, for every instruction and every width: no bit of an operand is dropped. -/
def Obligations.DecodeOfEncodeIsTheInstruction : Prop :=
  ∀ (W : Nat) (i : Instr), i.wf W = true → decode W (encode W i) = .ok i

/-- The other direction, where a word has one meaning: an EDGE at a step 0 to 67 is encoded as it was read. -/
def Obligations.EdgeWordIsEncodedAsItWasRead : Prop :=
  ∀ (W : Nat) (w : InstrWord) (i : Instr) (ts : Nat) (dir : Dir), decode W w = .ok i → isEdge i ts dir →
    w.step.toNat ≤ 67 → encode W i = w

/-- Sanity: words written out bit by bit from R71 at W = 16, with the `step` of each family. -/
def Obligations.WrittenOutWordsDecode : Prop :=
  decode 16 ⟨77, 0b0000000000000000000⟩ = .ok .nop ∧
  decode 16 ⟨0, 0b0100000001111101000⟩ = .ok (.edgeAwaitStart .falling 1000) ∧
  decode 16 ⟨1, 0b0110010011100010000⟩ = .ok (.edgeStartLow .rising 10000) ∧
  decode 16 ⟨65, 0b0111111111111111111⟩ = .ok (.edgeBitPulse31 .rising 65535) ∧
  decode 16 ⟨66, 0b0100000000000000000⟩ = .ok (.edgeBitGap31 .falling 0) ∧
  decode 16 ⟨67, 0b0111110001001000100⟩ = .ok (.edgeStopPulse .rising 57924) ∧
  decode 16 ⟨127, 0b0100000000000000001⟩ = .ok (.edgeBadStep96_127 .falling 1) ∧
  decode 16 ⟨0, 0b1000000000000000000⟩ = .ok .poll ∧
  decode 16 ⟨0, 0b1111111111111111111⟩ = .ok .reset

/-- R78: the fields of the response word. -/
def Obligations.ResponseWordFieldsAreAsTabled : Prop :=
  ∀ r : Response,
    r.word.extractLsb' 16 3 = (match r with
      | .ack => 0 | .pending => 1 | .frameReady _ _ => 2 | .resync => 3 | .pollNone => 4 | .pollSome _ _ => 5) ∧
    r.word.extractLsb' 8 8 = (match r with | .frameReady a _ => a | .pollSome a _ => a | _ => 0) ∧
    r.word.extractLsb' 0 8 = (match r with | .frameReady _ c => c | .pollSome _ c => c | _ => 0)

/-! ### The step -/

/-- When the word on `ev` decodes, with the stored `step`, to an instruction, the step is that instruction's meaning on
the state whose pending words no longer hold that word (R57, R73; the list `pending` is the model's, log entry 4). -/
def Obligations.StepRunsTheDecodedEvent : Prop :=
  ∀ (s : State) (ev : Nat) (rest : List Nat) (i : Instr), s.pending = ev :: rest →
    decode s.cfg.TS_WIDTH ⟨s.decoder.step, ev⟩ = .ok i → step s = exec i { s with pending := rest }

/-- R162 and log entry 5 (DEDUCED): a slot in which nothing is presented is a NOP. -/
def Obligations.IdleSlotIsANop : Prop :=
  ∀ s : State, s.pending = [] → step s = .next { s with resp := .ack, cause := none }

/-- Log entry 6 (the model's choice): a number too wide to be an event word is refused. -/
def Obligations.TooWideWordIsRefused : Prop :=
  ∀ (s : State) (ev : Nat) (rest : List Nat), s.pending = ev :: rest → 2 ^ (s.cfg.TS_WIDTH + 3) ≤ ev →
    step s = .refused .eventWordTooWide

/-- R139 of the step, and log entry 10 (DEDUCED): where every pending number is an event word, the machine never stops. -/
def Obligations.StepNeverStopsOnEventWords : Prop :=
  ∀ s : State, (∀ ev ∈ s.pending, ev < 2 ^ (s.cfg.TS_WIDTH + 3)) → ∃ t, step s = .next t

/-- R6: no event changes `cfg`. -/
def Obligations.ConfigurationNeverChanges : Prop :=
  ∀ s t : State, step s = .next t → t.cfg = s.cfg

/-- R25: what each event does to `step`. NOP and POLL leave it (and the rest of DecoderState); RESET makes it 0; an EDGE
advances it by one, or returns it to 0 by Resync, or by frame completion at 67. -/
def Obligations.StepRegisterMovesInThreeWays : Prop :=
  ∀ s t : State, step s = .next t → ∃ i, fetch s = .ok i ∧
    (i = .nop ∨ i = .poll → t.decoder = s.decoder) ∧
    (i = .reset → t.decoder.step = 0) ∧
    (∀ ts dir, isEdge i ts dir →
      (t.resp = .pending ∧ s.decoder.step.toNat ≤ 66 ∧ t.decoder.step.toNat = s.decoder.step.toNat + 1) ∨
      (t.resp = .resync ∧ t.decoder.step = 0) ∨
      (s.decoder.step = 67 ∧ t.decoder.step = 0 ∧ ∃ a c, t.resp = .frameReady a c))

/-- R27, R29: the only writers of the mailbox and what each writes. -/
def Obligations.MailboxHasThreeWriters : Prop :=
  ∀ (i : Instr) (s t : State), exec i s = .next t →
    t.mailbox = s.mailbox ∨
    (∃ dir ts, i = .edgeStopPulse dir ts ∧ t.resp = .frameReady s.decoder.address s.decoder.command ∧
      t.mailbox = { frame_ready := true, frame_address := s.decoder.address, frame_command := s.decoder.command }) ∨
    (i = .poll ∧ s.mailbox.frame_ready = true ∧ t.mailbox = { s.mailbox with frame_ready := false }) ∨
    (i = .reset ∧ t.mailbox = { frame_ready := false, frame_address := 0, frame_command := 0 })

/-- R41: the level outputs after any step are the fields of the state after it. -/
def Obligations.LevelOutputsShowTheStateAfterTheEvent : Prop :=
  ∀ s t : State, step s = .next t →
    t.levelOutputs =
      { expected_dir := t.decoder.expected_dir, frame_ready := t.mailbox.frame_ready,
        frame_address := t.mailbox.frame_address, frame_command := t.mailbox.frame_command } ∧
    (t.resp = .pending → t.levelOutputs.expected_dir = s.levelOutputs.expected_dir.flip) ∧
    (t.resp = .resync → t.levelOutputs.expected_dir = .falling)

/-! ### Invariants -/

/-- R32 items 1 to 4 at power-on. -/
def Obligations.DecoderInvariantHoldsAtReset : Prop := DecoderInv State.reset.decoder

/-- R32 items 1 to 4: every step keeps them, whatever `cfg` is and whatever is presented. -/
def Obligations.EveryStepKeepsTheDecoderInvariant : Prop :=
  ∀ s t : State, DecoderInv s.decoder → step s = .next t → DecoderInv t.decoder

/-- The widths hold at power-on. -/
def Obligations.WidthsHoldAtReset : Prop := WidthInv State.reset

/-- R20, R70: what is stored and what is presented (log entry 4) stays within its width. -/
def Obligations.EveryStepKeepsTheWidths : Prop :=
  ∀ s t : State, WidthInv s → step s = .next t → WidthInv t

/-! ### Runs -/

/-- R162, last sentence: any number of NOPs leaves what follows unchanged; the words' ignored fields may be anything. -/
def Obligations.NopsLeaveNoTrace : Prop :=
  ∀ (nops rest : List Nat) (s : State), nops ≠ [] → (∀ ev ∈ nops, ev < 2 ^ (s.cfg.TS_WIDTH + 1)) →
    s.pending = nops ++ rest →
    run nops.length s = .next { s with pending := rest, resp := .ack, cause := none }

/-- R58 item 2 with R32 item 5: as long as no event answers FrameReady, no event answers PollSome and the mailbox stays
empty, both from an empty mailbox and from right after an event that answered PollSome. -/
def Obligations.NoFrameIsPolledTwice : Prop :=
  (∀ (n : Nat) (s t : State), s.mailbox.frame_ready = false →
    (∀ k u a c, k < n → run (k + 1) s = .next u → u.resp ≠ .frameReady a c) → run n s = .next t →
    t.mailbox.frame_ready = false ∧ (0 < n → ∀ a c, t.resp ≠ .pollSome a c)) ∧
  (∀ (n : Nat) (s p t : State) (a₀ c₀ : Byte), step s = .next p → p.resp = .pollSome a₀ c₀ →
    (∀ k u a c, k < n → run (k + 1) p = .next u → u.resp ≠ .frameReady a c) → run n p = .next t →
    t.mailbox.frame_ready = false ∧ (0 < n → ∀ a c, t.resp ≠ .pollSome a c))

/-- R58 item 1: a frame waits in the mailbox until a POLL, a RESET or the next FrameReady. -/
def Obligations.FrameWaitsForThePoll : Prop :=
  ∀ (n : Nat) (s t : State),
    (∀ k u, k < n → run k s = .next u → fetch u ≠ .ok .poll ∧ fetch u ≠ .ok .reset) →
    (∀ k u a c, k < n → run (k + 1) s = .next u → u.resp ≠ .frameReady a c) →
    run n s = .next t → t.mailbox = s.mailbox

/-- R140: from `INIT`, fewer than 68 EDGE events cannot answer FrameReady, whatever they are and however many NOP, POLL,
RESET and empty slots stand between them. -/
def Obligations.NoFrameBeforeSixtyEightEdges : Prop :=
  ∀ (n : Nat) (s t : State) (a c : Byte), s.decoder = .INIT → 0 < n → edgesIn n s < 68 → run n s = .next t →
    t.resp ≠ .frameReady a c

/-- R77, R131, R133: from `INIT`, in either mode and whatever the mailbox holds, 68 alternating edges whose 67 intervals
lie in their windows deliver the frame that the gaps spell, least significant bit first, if its bytes are complementary,
and otherwise leave everything as it was. `f` is the 32 gaps as bits. -/
def Obligations.FrameInsideTheWindowsIsDecoded : Prop :=
  ∀ (s : State) (rest : List Nat) (t0 low high stop : Nat) (pulse gap : Nat → Nat) (f : BitVec 32),
    let W := s.cfg.TS_WIDTH
    let ivls := frameIntervals low high pulse gap stop
    let a := f.extractLsb' 0 8
    let ai := f.extractLsb' 8 8
    let c := f.extractLsb' 16 8
    let ci := f.extractLsb' 24 8
    s.decoder = .INIT → s.pending = (Trace.edges W t0 ivls).map (encodeEvent W) ++ rest →
    t0 < 2 ^ W → (∀ n ∈ ivls, n < 2 ^ W) →
    s.cfg.START_LOW.admits low = true → s.cfg.START_HIGH.admits high = true →
    (∀ k, k < 32 → s.cfg.BIT_PULSE.admits (pulse k) = true) →
    (∀ k, k < 32 → gapClass s.cfg (gap k) = if f.getLsbD k then .one else .zero) →
    s.cfg.STOP_PULSE.admits stop = true →
    run 68 s = .next
      (if a = ~~~ai ∧ c = ~~~ci then
        { s with
          mailbox := { frame_ready := true, frame_address := a, frame_command := c }
          pending := rest
          resp := .frameReady a c
          cause := none }
      else { s with pending := rest, resp := .resync, cause := some .complementMismatch })

/-- R82, R140: a nominal NECFRAME, for every address, command and start time and for every `cfg` an integrator keeps as
R6 says with tolerances of at least 1: 67 events answer Pending and the 68th FrameReady(address, command). -/
def Obligations.NominalNecFrameGivesOneFrame : Prop :=
  ∀ (s : State) (rest : List Nat) (t0 : Nat) (a c : Byte),
    s.cfg.asDocDescribes = true → (∀ w ∈ s.cfg.windows, 1 ≤ w.TOL) → s.decoder = .INIT → t0 < 2 ^ s.cfg.TS_WIDTH →
    s.pending = (Trace.necframe s.cfg t0 a c).map (encodeEvent s.cfg.TS_WIDTH) ++ rest →
    (∀ k, k < 67 → ∃ u, run (k + 1) s = .next u ∧ u.resp = .pending) ∧
    run 68 s = .next
      { s with
        mailbox := { frame_ready := true, frame_address := a, frame_command := c }
        pending := rest
        resp := .frameReady a c
        cause := none }

/-- R222, R223 (1): from `INIT`, pairs of edges of which the first is taken as a start and the second ends no start pulse
leave DecoderState at `INIT` and the mailbox as it was: the tail of a damaged frame in strict mode (FALLING, RISING), and
the loss of phase in trust mode, where the pair may be of any directions. -/
def Obligations.FailedStartsLeaveInitAndMailbox : Prop :=
  ∀ (pairs : List (Nat × Nat)) (rest : List Nat) (d₁ d₂ : Dir) (s : State),
    let W := s.cfg.TS_WIDTH
    (s.cfg.POLARITY_STRICT = true → d₁ = .falling ∧ d₂ = .rising) → s.decoder = .INIT →
    (∀ p ∈ pairs, p.1 < 2 ^ W ∧ p.2 < 2 ^ W ∧ s.cfg.START_LOW.admits (interval W p.1 p.2) = false) →
    s.pending = (pairs.flatMap fun p => [Event.edge p.1 d₁, Event.edge p.2 d₂]).map (encodeEvent W) ++ rest →
    ∃ t, run (2 * pairs.length) s = .next t ∧
      t.decoder = .INIT ∧ t.mailbox = s.mailbox ∧ t.pending = rest ∧ t.cfg = s.cfg
end

