-- ==== Sys2Proof/Laws/State.lean ====
section
/-! SUPPORT. One lemma per field per update, true by rfl: no later proof unfolds a record update. -/

namespace Sys2Proof

/-! ### The initial values -/

@[simp] theorem DecoderState.INIT_step : DecoderState.INIT.step = 0 := rfl
@[simp] theorem DecoderState.INIT_last_ts : DecoderState.INIT.last_ts = 0 := rfl
@[simp] theorem DecoderState.INIT_address : DecoderState.INIT.address = 0 := rfl
@[simp] theorem DecoderState.INIT_address_inverse : DecoderState.INIT.address_inverse = 0 := rfl
@[simp] theorem DecoderState.INIT_command : DecoderState.INIT.command = 0 := rfl
@[simp] theorem DecoderState.INIT_command_inverse : DecoderState.INIT.command_inverse = 0 := rfl
@[simp] theorem DecoderState.INIT_expected_dir : DecoderState.INIT.expected_dir = .falling := rfl
@[simp] theorem Mailbox.EMPTY_frame_ready : Mailbox.EMPTY.frame_ready = false := rfl
@[simp] theorem Mailbox.EMPTY_frame_address : Mailbox.EMPTY.frame_address = 0 := rfl
@[simp] theorem Mailbox.EMPTY_frame_command : Mailbox.EMPTY.frame_command = 0 := rfl

/-! ### The mailbox -/

@[simp] theorem Mailbox.put_frame_ready (m : Mailbox) (a c : Byte) : (m.put a c).frame_ready = true := rfl
@[simp] theorem Mailbox.put_frame_address (m : Mailbox) (a c : Byte) : (m.put a c).frame_address = a := rfl
@[simp] theorem Mailbox.put_frame_command (m : Mailbox) (a c : Byte) : (m.put a c).frame_command = c := rfl
@[simp] theorem Mailbox.take_frame_ready (m : Mailbox) : m.take.frame_ready = false := rfl
@[simp] theorem Mailbox.take_frame_address (m : Mailbox) : m.take.frame_address = m.frame_address := rfl
@[simp] theorem Mailbox.take_frame_command (m : Mailbox) : m.take.frame_command = m.frame_command := rfl

namespace Machine

/-! ### respond -/

@[simp] theorem respond_cfg (r : Response) (s : State) : (respond r s).cfg = s.cfg := rfl
@[simp] theorem respond_decoder (r : Response) (s : State) : (respond r s).decoder = s.decoder := rfl
@[simp] theorem respond_mailbox (r : Response) (s : State) : (respond r s).mailbox = s.mailbox := rfl
@[simp] theorem respond_pending (r : Response) (s : State) : (respond r s).pending = s.pending := rfl
@[simp] theorem respond_resp (r : Response) (s : State) : (respond r s).resp = r := rfl
@[simp] theorem respond_cause (r : Response) (s : State) : (respond r s).cause = none := rfl

/-! ### raiseResync -/

@[simp] theorem raiseResync_cfg (c : Cause) (s : State) : (raiseResync c s).cfg = s.cfg := rfl
@[simp] theorem raiseResync_decoder (c : Cause) (s : State) : (raiseResync c s).decoder = .INIT := rfl
@[simp] theorem raiseResync_mailbox (c : Cause) (s : State) : (raiseResync c s).mailbox = s.mailbox := rfl
@[simp] theorem raiseResync_pending (c : Cause) (s : State) : (raiseResync c s).pending = s.pending := rfl
@[simp] theorem raiseResync_resp (c : Cause) (s : State) : (raiseResync c s).resp = .resync := rfl
@[simp] theorem raiseResync_cause (c : Cause) (s : State) : (raiseResync c s).cause = some c := rfl

/-! ### accept -/

@[simp] theorem accept_cfg (ts : Nat) (s : State) : (accept ts s).cfg = s.cfg := rfl
@[simp] theorem accept_step (ts : Nat) (s : State) : (accept ts s).decoder.step = s.decoder.step + 1 := rfl
@[simp] theorem accept_last_ts (ts : Nat) (s : State) : (accept ts s).decoder.last_ts = ts := rfl
@[simp] theorem accept_address (ts : Nat) (s : State) : (accept ts s).decoder.address = s.decoder.address := rfl
@[simp] theorem accept_address_inverse (ts : Nat) (s : State) : (accept ts s).decoder.address_inverse = s.decoder.address_inverse := rfl
@[simp] theorem accept_command (ts : Nat) (s : State) : (accept ts s).decoder.command = s.decoder.command := rfl
@[simp] theorem accept_command_inverse (ts : Nat) (s : State) : (accept ts s).decoder.command_inverse = s.decoder.command_inverse := rfl
@[simp] theorem accept_expected_dir (ts : Nat) (s : State) : (accept ts s).decoder.expected_dir = s.decoder.expected_dir.flip := rfl
@[simp] theorem accept_mailbox (ts : Nat) (s : State) : (accept ts s).mailbox = s.mailbox := rfl
@[simp] theorem accept_pending (ts : Nat) (s : State) : (accept ts s).pending = s.pending := rfl
@[simp] theorem accept_resp (ts : Nat) (s : State) : (accept ts s).resp = .pending := rfl
@[simp] theorem accept_cause (ts : Nat) (s : State) : (accept ts s).cause = none := rfl

/-! ### emitFrame -/

@[simp] theorem emitFrame_cfg (s : State) : (emitFrame s).cfg = s.cfg := rfl
@[simp] theorem emitFrame_decoder (s : State) : (emitFrame s).decoder = .INIT := rfl
@[simp] theorem emitFrame_mailbox (s : State) : (emitFrame s).mailbox = s.mailbox.put s.decoder.address s.decoder.command := rfl
@[simp] theorem emitFrame_pending (s : State) : (emitFrame s).pending = s.pending := rfl
@[simp] theorem emitFrame_resp (s : State) : (emitFrame s).resp = .frameReady s.decoder.address s.decoder.command := rfl
@[simp] theorem emitFrame_cause (s : State) : (emitFrame s).cause = none := rfl

/-! ### State.consumed -/

@[simp] theorem State.consumed_cfg (s : State) : s.consumed.cfg = s.cfg := rfl
@[simp] theorem State.consumed_decoder (s : State) : s.consumed.decoder = s.decoder := rfl
@[simp] theorem State.consumed_mailbox (s : State) : s.consumed.mailbox = s.mailbox := rfl
@[simp] theorem State.consumed_pending (s : State) : s.consumed.pending = s.pending.tail := rfl
@[simp] theorem State.consumed_resp (s : State) : s.consumed.resp = s.resp := rfl
@[simp] theorem State.consumed_cause (s : State) : s.consumed.cause = s.cause := rfl

@[simp] theorem accept_frame (ts : Nat) (s : State) : (accept ts s).decoder.frame = s.decoder.frame := rfl

end Machine

/-! ### A bit set in an accumulator -/

namespace DecoderState

@[simp] theorem setFrameBit_step (d : DecoderState) (i : Nat) : (d.setFrameBit i).step = d.step := by
  unfold setFrameBit; split_ifs <;> rfl

@[simp] theorem setFrameBit_last_ts (d : DecoderState) (i : Nat) : (d.setFrameBit i).last_ts = d.last_ts := by
  unfold setFrameBit; split_ifs <;> rfl

@[simp] theorem setFrameBit_expected_dir (d : DecoderState) (i : Nat) :
    (d.setFrameBit i).expected_dir = d.expected_dir := by
  unfold setFrameBit; split_ifs <;> rfl

end DecoderState

end Sys2Proof
end

