-- ==== Sys2Proof/Laws/Decode.lean ====
section
/-! SUPPORT. The event word, the dispatch and the encoder: what each does, once. -/

namespace Sys2Proof

/-! ### Event words -/

/-- The decoder by the value of the kind field. -/
theorem decodeEvent_of_kind (W k r : Nat) (hr : r < 2 ^ (W + 1)) :
    decodeEvent W (k * 2 ^ (W + 1) + r) =
      match k with
      | 0 => .ok .nop
      | 1 => .ok (.edge (r % 2 ^ W) (.ofCode (r / 2 ^ W % 2)))
      | 2 => .ok .poll
      | 3 => .ok .reset
      | _ => .error .eventWordTooWide := by
  have hk : (k * 2 ^ (W + 1) + r) / 2 ^ (W + 1) = k := by
    rw [Nat.add_comm, Nat.add_mul_div_right _ _ (by positivity), Nat.div_eq_of_lt hr, Nat.zero_add]
  have hpow : 2 ^ (W + 1) = 2 * 2 ^ W := by ring
  have hm : (1 * 2 ^ (W + 1) + r) % 2 ^ W = r % 2 ^ W := by
    rw [hpow, Nat.one_mul, Nat.mul_add_mod_self_right]
  have hd : (1 * 2 ^ (W + 1) + r) / 2 ^ W % 2 = r / 2 ^ W % 2 := by
    rw [hpow, Nat.one_mul, Nat.add_comm, Nat.add_mul_div_right _ _ (by positivity)]
    omega
  unfold decodeEvent
  rw [hk]
  rcases k with _ | _ | _ | _ | k
  · rfl
  · simp only [Nat.zero_add]; rw [hm, hd]
  · rfl
  · rfl
  · rfl

/-- Every number splits into a kind and the `W + 1` bits below it. -/
theorem eventWord_split (W ev : Nat) :
    ev = ev / 2 ^ (W + 1) * 2 ^ (W + 1) + ev % 2 ^ (W + 1) ∧ ev % 2 ^ (W + 1) < 2 ^ (W + 1) :=
  ⟨by rw [Nat.mul_comm]; exact (Nat.div_add_mod ev _).symm, Nat.mod_lt _ (by positivity)⟩

@[simp] theorem Dir.ofCode_code (d : Dir) : Dir.ofCode d.code = d := by cases d <;> rfl

theorem Dir.code_lt (d : Dir) : d.code < 2 := by cases d <;> decide

/-- The operand field of an event stays in its `W + 1` bits. -/
theorem Event.operands_lt (W : Nat) (e : Event) (h : e.wf W = true) : e.operands W < 2 ^ (W + 1) := by
  have hpow : 2 ^ (W + 1) = 2 * 2 ^ W := by ring
  have hpos : 0 < 2 ^ W := by positivity
  cases e with
  | edge ts d =>
    have hts : ts < 2 ^ W := by simpa [Event.wf, fitsTicks] using h
    cases d <;> simp only [Event.operands, Dir.code] <;> omega
  | nop => simp only [Event.operands]; omega
  | poll => simp only [Event.operands]; omega
  | reset => simp only [Event.operands]; omega

/-- The word of an event, decoded. -/
theorem decodeEvent_encode (W : Nat) (e : Event) (h : e.wf W = true) : decodeEvent W (encodeEvent W e) = .ok e := by
  unfold encodeEvent
  rw [decodeEvent_of_kind W e.kind _ (Event.operands_lt W e h)]
  cases e with
  | edge ts d =>
    have hts : ts < 2 ^ W := by simpa [Event.wf, fitsTicks] using h
    simp only [Event.kind, Event.operands]
    rw [Nat.add_comm, Nat.add_mul_mod_self_right, Nat.mod_eq_of_lt hts,
      Nat.add_mul_div_right _ _ (by positivity), Nat.div_eq_of_lt hts, Nat.zero_add,
      Nat.mod_eq_of_lt d.code_lt, Dir.ofCode_code]
  | nop => rfl
  | poll => rfl
  | reset => rfl

/-- The word of an event fits the port of `W + 3` bits. -/
theorem encodeEvent_lt (W : Nat) (e : Event) (h : e.wf W = true) : encodeEvent W e < 2 ^ (W + 3) := by
  have hop := Event.operands_lt W e h
  have hk : e.kind ≤ 3 := by cases e <;> simp [Event.kind]
  have hpow : 2 ^ (W + 3) = 4 * 2 ^ (W + 1) := by ring
  have : e.kind * 2 ^ (W + 1) ≤ 3 * 2 ^ (W + 1) := Nat.mul_le_mul_right _ hk
  unfold encodeEvent
  omega

/-- What a decoded word was: its kind field, and for an EDGE its operands, which fit. -/
theorem decodeEvent_inv {W ev : Nat} {e : Event} (h : decodeEvent W ev = .ok e) :
    ev / 2 ^ (W + 1) = e.kind ∧ e.wf W = true ∧ (e.kind = 1 → ev = encodeEvent W e) := by
  obtain ⟨hs, hlt⟩ := eventWord_split W ev
  have hpow : 2 ^ (W + 1) = 2 ^ W * 2 := by ring
  have h := (congrArg (decodeEvent W) hs).symm.trans h
  rw [decodeEvent_of_kind W _ _ hlt] at h
  generalize hk : ev / 2 ^ (W + 1) = k at h hs
  match k, h with
  | 0, h => cases h; exact ⟨rfl, rfl, fun h => absurd h (by simp [Event.kind])⟩
  | 2, h => cases h; exact ⟨rfl, rfl, fun h => absurd h (by simp [Event.kind])⟩
  | 3, h => cases h; exact ⟨rfl, rfl, fun h => absurd h (by simp [Event.kind])⟩
  | 1, h =>
    cases h
    refine ⟨rfl, by simpa [Event.wf, fitsTicks] using Nat.mod_lt _ (by positivity), fun _ => ?_⟩
    have hb : ev % 2 ^ (W + 1) / 2 ^ W < 2 := by
      rw [Nat.div_lt_iff_lt_mul (by positivity), Nat.mul_comm, ← hpow]; exact hlt
    have hc : (Dir.ofCode (ev % 2 ^ (W + 1) / 2 ^ W % 2)).code = ev % 2 ^ (W + 1) / 2 ^ W := by
      generalize ev % 2 ^ (W + 1) / 2 ^ W = b at hb
      interval_cases b <;> rfl
    have ho : (Event.edge (ev % 2 ^ (W + 1) % 2 ^ W)
        (Dir.ofCode (ev % 2 ^ (W + 1) / 2 ^ W % 2))).operands W = ev % 2 ^ (W + 1) := by
      simp only [Event.operands, hc]
      exact Nat.div_add_mod' _ _
    rw [encodeEvent, ho]
    exact hs

/-! ### Dispatch -/

@[simp] theorem instrEvent_bitPulseRow (k : Nat) (dir : Dir) (ts : Nat) :
    instrEvent (bitPulseRow k dir ts) = .edge ts dir := by
  unfold bitPulseRow; split <;> rfl

@[simp] theorem instrEvent_bitGapRow (k : Nat) (dir : Dir) (ts : Nat) :
    instrEvent (bitGapRow k dir ts) = .edge ts dir := by
  unfold bitGapRow; split <;> rfl

@[simp] theorem instrEvent_edgeRow (step : StepReg) (dir : Dir) (ts : Nat) :
    instrEvent (edgeRow step dir ts) = .edge ts dir := by
  unfold edgeRow
  split_ifs <;> first | rfl | exact instrEvent_bitPulseRow _ _ _ | exact instrEvent_bitGapRow _ _ _

/-- The dispatched instruction is one for the event. -/
@[simp] theorem instrEvent_dispatch (step : StepReg) (e : Event) : instrEvent (dispatch step e) = e := by
  cases e <;> first | rfl | exact instrEvent_edgeRow _ _ _

/-- The decoder in two halves. -/
theorem decode_ok_iff {W : Nat} {w : InstrWord} {i : Instr} :
    decode W w = .ok i ↔ ∃ e, decodeEvent W w.ev = .ok e ∧ i = dispatch w.step e := by
  unfold decode
  cases h : decodeEvent W w.ev with
  | ok e => simp [eq_comm]
  | error r => simp

/-! ### The encoder, for the per-instruction family -/

/-- A key is its two fields. -/
theorem key_split (p : Key) : BitVec.ofNat 2 (p.toNat / 128) ++ BitVec.ofNat 7 p.toNat = p := by
  apply BitVec.eq_of_getLsbD_eq
  intro j hj
  rw [BitVec.getLsbD_append]
  simp only [BitVec.getLsbD_ofNat]
  rw [show (128 : Nat) = 2 ^ 7 by norm_num, Nat.testBit_div_two_pow]
  split_ifs with h
  · simp [h, BitVec.getLsbD]
  · simp [show j - 7 < 2 by omega, show j - 7 + 7 = j by omega, BitVec.getLsbD]

/-- The encoder of an instruction whose row has the kind of its event. -/
theorem encode_ev (W : Nat) (i : Instr) (hk : (keyRow i).kindBits = (instrEvent i).kind) :
    (encode W i).ev = encodeEvent W (instrEvent i) := by
  simp only [encode, encodeEvent, hk]

/-- What the family EncodedWord says of an instruction, from its row and its event. -/
theorem encodedWord_of_row {i : Instr} (r : KeyRow) (hr : keyRow i = r) (hk : r.kindBits = (instrEvent i).kind)
    (hc : r.covers r.pattern = true) {W : Nat} (hw : (instrEvent i).wf W = true) :
    dispatchKey (encode W i).step (instrEvent i) = (keyRow i).pattern ∧
    (keyRow i).covers (keyRow i).pattern = true ∧
    (encode W i).ev = encodeEvent W (instrEvent i) ∧ (encode W i).ev < 2 ^ (W + 3) := by
  subst hr
  have hev := encode_ev W i hk
  refine ⟨?_, hc, hev, hev ▸ encodeEvent_lt W _ hw⟩
  rw [dispatchKey, ← hk]
  exact key_split _

end Sys2Proof
end

