-- ==== Sys2Proof/Laws/Operands.lean ====
section
/-! SUPPORT. The pure functions of the classifier: one lemma per function that says all it does. -/

namespace Sys2Proof

/-- An interval has `W` bits. -/
theorem interval_lt (W last ts : Nat) : interval W last ts < 2 ^ W := by
  have hpos : (0 : Int) < ((2 ^ W : Nat) : Int) := by positivity
  have h0 := Int.emod_nonneg ((ts : Int) - last) hpos.ne'
  exact (Int.toNat_lt h0).mpr (Int.emod_lt_of_pos _ hpos)

/-- The interval as an integer. -/
theorem interval_cast (W last ts : Nat) :
    ((interval W last ts : Nat) : Int) = ((ts : Int) - last) % ((2 ^ W : Nat) : Int) := by
  have hpos : (0 : Int) < ((2 ^ W : Nat) : Int) := by positivity
  have h0 := Int.emod_nonneg ((ts : Int) - last) hpos.ne'
  unfold interval
  omega

/-- An edge `n` ticks after the last one, `n` of `W` bits, is seen at the interval `n`. -/
theorem interval_add (W last n : Nat) (hn : n < 2 ^ W) : interval W last ((last + n) % 2 ^ W) = n := by
  have h : ((interval W last ((last + n) % 2 ^ W) : Nat) : Int) = n := by
    rw [interval_cast]
    push_cast
    rw [Int.emod_sub_emod]
    rw [show ((last : Int) + n - last) = n by ring]
    exact Int.emod_eq_of_lt (by positivity) (by exact_mod_cast hn)
  exact_mod_cast h

/-- The window test as inequalities. -/
theorem Window.admits_iff (w : Window) (d : Nat) :
    w.admits d = true ↔ (w.T : Int) - w.TOL < d ∧ (d : Int) < w.T + w.TOL := by
  simp [Window.admits]

/-- The three answers of the classifier by the two windows. -/
theorem gapClass_eq (c : Cfg) (d : Nat) :
    gapClass c d =
      if c.BIT_ZERO_GAP.admits d = c.BIT_ONE_GAP.admits d then .neither
      else if c.BIT_ONE_GAP.admits d then .one else .zero := by
  unfold gapClass
  cases c.BIT_ZERO_GAP.admits d <;> cases c.BIT_ONE_GAP.admits d <;> rfl

/-- The bits of an accumulator after a bit set. -/
theorem getLsbD_setBit (acc : Byte) (k j : Nat) (hj : j < 8) :
    (setBit acc k).getLsbD j = (acc.getLsbD j || decide (k = j)) := by
  simp only [setBit, BitVec.getLsbD_or, BitVec.getLsbD_shiftLeft, BitVec.getLsbD_one]
  congr 1
  simp only [hj, decide_true, Bool.true_and]
  by_cases h : k = j
  · subst h; simp
  · simp only [h, decide_false]
    by_cases h' : j < k
    · simp [h']
    · simp [show j - k ≠ 0 by omega]

namespace DecoderState

/-- The bits of the frame view by accumulator. -/
theorem getLsbD_frame (d : DecoderState) (j : Nat) (hj : j < 32) :
    d.frame.getLsbD j =
      if j < 8 then d.address.getLsbD j
      else if j < 16 then d.address_inverse.getLsbD (j - 8)
      else if j < 24 then d.command.getLsbD (j - 16)
      else d.command_inverse.getLsbD (j - 24) := by
  simp only [frame, BitVec.getLsbD_append]
  split_ifs <;> first | rfl | (exfalso; omega)

/-- A frame bit set: that bit of the 32, no other. -/
theorem getLsbD_frame_setFrameBit (d : DecoderState) (i j : Nat) (hi : i < 32) (hj : j < 32) :
    (d.setFrameBit i).frame.getLsbD j = (d.frame.getLsbD j || decide (i = j)) := by
  rw [getLsbD_frame _ j hj, getLsbD_frame _ j hj]
  unfold setFrameBit
  by_cases h1 : i < 8
  · simp only [h1, if_true, Nat.mod_eq_of_lt h1]
    split_ifs with h
    · rw [getLsbD_setBit _ _ _ h]
    all_goals simp [show i ≠ j by omega]
  by_cases h2 : i < 16
  · simp only [h1, h2, if_true, if_false]
    split_ifs with h h'
    · simp [show i ≠ j by omega]
    · rw [getLsbD_setBit _ _ _ (by omega)]
      congr 1
      exact decide_eq_decide.mpr (by omega)
    all_goals simp [show i ≠ j by omega]
  by_cases h3 : i < 24
  · simp only [h1, h2, h3, if_true, if_false]
    split_ifs with h h' h''
    · simp [show i ≠ j by omega]
    · simp [show i ≠ j by omega]
    · rw [getLsbD_setBit _ _ _ (by omega)]
      congr 1
      exact decide_eq_decide.mpr (by omega)
    · simp [show i ≠ j by omega]
  · simp only [h1, h2, h3, if_false]
    split_ifs with h h' h''
    · simp [show i ≠ j by omega]
    · simp [show i ≠ j by omega]
    · simp [show i ≠ j by omega]
    · rw [getLsbD_setBit _ _ _ (by omega)]
      congr 1
      exact decide_eq_decide.mpr (by omega)

end DecoderState

/-- A flip changes the direction. -/
@[simp] theorem Dir.flip_flip (d : Dir) : d.flip.flip = d := by cases d <;> rfl

end Sys2Proof
end

