-- ==== Sys2Proof/Laws/Exec.lean ====
section
/-! SUPPORT. What an instruction can do, said once: the shared operations, the EDGE rows by their `step`, and one
inversion lemma for `exec`. -/

namespace Sys2Proof.Machine

/-! ### The shared operations -/

/-- The polarity check either raises PolarityViolation or lets the body run. -/
theorem edgeOp_cases (dir : Dir) (s body : State) :
    (s.cfg.POLARITY_STRICT = true ∧ dir ≠ s.decoder.expected_dir ∧
      edgeOp dir s body = raiseResync .polarityViolation s) ∨
    (polarityPasses s dir ∧ edgeOp dir s body = body) := by
  unfold edgeOp wrongDirection polarityPasses
  by_cases hs : s.cfg.POLARITY_STRICT = true
  · by_cases hd : dir = s.decoder.expected_dir
    · right; simp [hd]
    · left; simp [hs, hd]
  · right; simp [hs]

/-- Where the polarity check passes, the body runs. -/
theorem edgeOp_of_passes {dir : Dir} {s : State} (h : polarityPasses s dir) (body : State) :
    edgeOp dir s body = body := by
  rcases edgeOp_cases dir s body with ⟨hs, hd, _⟩ | ⟨_, he⟩
  · exact absurd (h hs) hd
  · exact he

/-- A window test either passes on or raises TimingMismatch. -/
theorem inWindow_cases (w : Window) (ts : Nat) (s onMatch : State) :
    (w.admits (intervalAt s ts) = true ∧ inWindow w ts s onMatch = onMatch) ∨
    (w.admits (intervalAt s ts) = false ∧ inWindow w ts s onMatch = raiseResync .timingMismatch s) := by
  unfold inWindow
  cases h : w.admits (intervalAt s ts)
  · right; simp
  · left; simp

/-- A gap is accepted, accepted with its bit set, or a TimingMismatch. -/
theorem decideBit_cases (ts : Nat) (s : State) :
    (gapClass s.cfg (intervalAt s ts) = .zero ∧ decideBit ts s = accept ts s) ∨
    (gapClass s.cfg (intervalAt s ts) = .one ∧ decideBit ts s =
      accept ts { s with decoder := s.decoder.setFrameBit (frameBitIndex s.decoder.step) }) ∨
    (gapClass s.cfg (intervalAt s ts) = .neither ∧ decideBit ts s = raiseResync .timingMismatch s) := by
  unfold decideBit
  cases h : gapClass s.cfg (intervalAt s ts) <;> simp

/-- A frame is emitted or a ComplementMismatch. -/
theorem validateFrame_cases (s : State) :
    (s.decoder.complementOk = true ∧ validateFrame s = emitFrame s) ∨
    (s.decoder.complementOk = false ∧ validateFrame s = raiseResync .complementMismatch s) := by
  unfold validateFrame
  cases h : s.decoder.complementOk <;> simp

/-! ### The rows -/

@[simp] theorem exec_bitPulseRow (k : Nat) (dir : Dir) (ts : Nat) (s : State) :
    exec (bitPulseRow k dir ts) s = bitPulse dir ts s := by
  unfold bitPulseRow; split <;> rfl

@[simp] theorem exec_bitGapRow (k : Nat) (dir : Dir) (ts : Nat) (s : State) :
    exec (bitGapRow k dir ts) s = bitGap dir ts s := by
  unfold bitGapRow; split <;> rfl

/-- The state a passing EDGE leaves, by the `step` that selected its row (spec/41_edge_operations.md R120). -/
def edgeBody (step : StepReg) (ts : Nat) (s : State) : State :=
  if step.toNat = 0 then accept ts s
  else if step.toNat = 1 then inWindow s.cfg.START_LOW ts s (accept ts s)
  else if step.toNat = 2 then inWindow s.cfg.START_HIGH ts s (accept ts s)
  else if step.toNat ≤ 66 then
    if step.toNat % 2 = 1 then inWindow s.cfg.BIT_PULSE ts s (accept ts s)
    else decideBit ts s
  else if step.toNat = 67 then inWindow s.cfg.STOP_PULSE ts s (validateFrame s)
  else raiseResync .unreachableStep s

/-- An EDGE row is the polarity check and its body. -/
theorem exec_edgeRow (step : StepReg) (dir : Dir) (ts : Nat) (s : State) :
    exec (edgeRow step dir ts) s = .next (edgeOp dir s (edgeBody step ts s)) := by
  unfold edgeRow edgeBody
  split_ifs <;> first | rfl | exact exec_bitPulseRow _ _ _ _ | exact exec_bitGapRow _ _ _ _

/-- The `step` of an EDGE instruction's row leads the dispatch back to it. -/
theorem edgeRow_of_isEdge {i : Instr} {ts : Nat} {dir : Dir} (hi : isEdge i ts dir) :
    edgeRow (keyRow i).stepBits dir ts = i := by
  cases i <;> cases hi <;> simp [keyRow, KeyRow.stepBits, edgeRow, bitPulseRow, bitGapRow]

/-- An EDGE instruction is the polarity check and the body of its row's `step`, the same one in every state. -/
theorem exec_edge_eq {i : Instr} {ts : Nat} {dir : Dir} (hi : isEdge i ts dir) :
    ∃ step, ∀ s, exec i s = .next (edgeOp dir s (edgeBody step ts s)) :=
  ⟨(keyRow i).stepBits, fun s => by rw [← exec_edgeRow, edgeRow_of_isEdge hi]⟩

/-- The body of an EDGE ends in one of four ways. -/
inductive EdgeEnds (ts : Nat) (s : State) : Instr → State → Prop where
  | resync (i : Instr) (c : Cause) (hc : c ≠ .polarityViolation) : EdgeEnds ts s i (raiseResync c s)
  | accept (i : Instr) : EdgeEnds ts s i (accept ts s)
  | oneGap (i : Instr) (h : gapClass s.cfg (intervalAt s ts) = .one) :
      EdgeEnds ts s i (Machine.accept ts
        { s with decoder := s.decoder.setFrameBit (frameBitIndex s.decoder.step) })
  | frame (dir : Dir) (hw : s.cfg.STOP_PULSE.admits (intervalAt s ts) = true)
      (hc : s.decoder.complementOk = true) : EdgeEnds ts s (.edgeStopPulse dir ts) (emitFrame s)

/-- What an EDGE instruction can do: PolarityViolation, or one of the four ends. -/
theorem exec_edge_cases {i : Instr} {ts : Nat} {dir : Dir} {s t : State} (hi : isEdge i ts dir)
    (h : exec i s = .next t) :
    (s.cfg.POLARITY_STRICT = true ∧ dir ≠ s.decoder.expected_dir ∧ t = raiseResync .polarityViolation s) ∨
    (polarityPasses s dir ∧ EdgeEnds ts s i t) := by
  have window : ∀ w, exec i s = .next (edgeOp dir s (inWindow w ts s (accept ts s))) →
      (s.cfg.POLARITY_STRICT = true ∧ dir ≠ s.decoder.expected_dir ∧ t = raiseResync .polarityViolation s) ∨
      (polarityPasses s dir ∧ EdgeEnds ts s i t) := by
    intro w he
    obtain rfl : edgeOp dir s (inWindow w ts s (accept ts s)) = t := by simpa [he] using h
    rcases edgeOp_cases dir s (inWindow w ts s (accept ts s)) with ⟨a, b, e⟩ | ⟨a, e⟩ <;> rw [e]
    · exact .inl ⟨a, b, rfl⟩
    · right; refine ⟨a, ?_⟩
      rcases inWindow_cases w ts s (accept ts s) with ⟨_, e⟩ | ⟨_, e⟩ <;> rw [e]
      · exact .accept i
      · exact .resync i _ (by decide)
  have gap : exec i s = bitGap dir ts s →
      (s.cfg.POLARITY_STRICT = true ∧ dir ≠ s.decoder.expected_dir ∧ t = raiseResync .polarityViolation s) ∨
      (polarityPasses s dir ∧ EdgeEnds ts s i t) := by
    intro he
    rw [he] at h
    unfold bitGap at h
    rcases edgeOp_cases dir s (decideBit ts s) with ⟨a, b, e⟩ | ⟨a, e⟩ <;> rw [e] at h <;> cases h
    · exact .inl ⟨a, b, rfl⟩
    · right; refine ⟨a, ?_⟩
      rcases decideBit_cases ts s with ⟨_, e⟩ | ⟨hg, e⟩ | ⟨_, e⟩ <;> rw [e]
      · exact .accept i
      · exact .oneGap i hg
      · exact .resync i _ (by decide)
  have bad : exec i s = badStep dir s →
      (s.cfg.POLARITY_STRICT = true ∧ dir ≠ s.decoder.expected_dir ∧ t = raiseResync .polarityViolation s) ∨
      (polarityPasses s dir ∧ EdgeEnds ts s i t) := by
    intro he
    rw [he] at h
    unfold badStep at h
    rcases edgeOp_cases dir s (raiseResync .unreachableStep s) with ⟨a, b, e⟩ | ⟨a, e⟩ <;> rw [e] at h <;> cases h
    · exact .inl ⟨a, b, rfl⟩
    · exact .inr ⟨a, .resync i _ (by decide)⟩
  cases i <;> cases hi <;> first
    | exact window s.cfg.BIT_PULSE rfl
    | exact gap rfl
    | exact bad rfl
    | exact window s.cfg.START_LOW rfl
    | exact window s.cfg.START_HIGH rfl
    | skip
  · -- EDGE.AWAIT_START
    rcases edgeOp_cases dir s (accept ts s) with ⟨a, b, e⟩ | ⟨a, e⟩ <;>
      simp only [exec, execEdgeAwaitStart, e] at h <;> cases h
    · exact .inl ⟨a, b, rfl⟩
    · exact .inr ⟨a, .accept _⟩
  · -- EDGE.STOP_PULSE
    rcases edgeOp_cases dir s (inWindow s.cfg.STOP_PULSE ts s (validateFrame s)) with ⟨a, b, e⟩ | ⟨a, e⟩ <;>
      simp only [exec, execEdgeStopPulse, e] at h <;> cases h
    · exact .inl ⟨a, b, rfl⟩
    · right; refine ⟨a, ?_⟩
      rcases inWindow_cases s.cfg.STOP_PULSE ts s (validateFrame s) with ⟨hw, e⟩ | ⟨_, e⟩ <;> rw [e]
      · rcases validateFrame_cases s with ⟨hc, e⟩ | ⟨_, e⟩ <;> rw [e]
        · exact .frame dir hw hc
        · exact .resync _ _ (by decide)
      · exact .resync _ _ (by decide)

/-- What an instruction can do, by its event. -/
theorem exec_cases {i : Instr} {s t : State} (h : exec i s = .next t) :
    (i = .nop ∧ t = respond .ack s) ∨
    (i = .poll ∧ s.mailbox.frame_ready = true ∧
      t = respond (.pollSome s.mailbox.frame_address s.mailbox.frame_command) { s with mailbox := s.mailbox.take }) ∨
    (i = .poll ∧ s.mailbox.frame_ready = false ∧ t = respond .pollNone s) ∨
    (i = .reset ∧ t = respond .ack { s with decoder := .INIT, mailbox := .EMPTY }) ∨
    (∃ ts dir, isEdge i ts dir ∧
      ((s.cfg.POLARITY_STRICT = true ∧ dir ≠ s.decoder.expected_dir ∧ t = raiseResync .polarityViolation s) ∨
       (polarityPasses s dir ∧ EdgeEnds ts s i t))) := by
  cases he : instrEvent i with
  | edge ts dir => exact .inr (.inr (.inr (.inr ⟨ts, dir, he, exec_edge_cases he h⟩)))
  | nop =>
    obtain rfl : i = .nop := by cases i <;> first | rfl | cases he
    cases h; exact .inl ⟨rfl, rfl⟩
  | reset =>
    obtain rfl : i = .reset := by cases i <;> first | rfl | cases he
    cases h; exact .inr (.inr (.inr (.inl ⟨rfl, rfl⟩)))
  | poll =>
    obtain rfl : i = .poll := by cases i <;> first | rfl | cases he
    cases hr : s.mailbox.frame_ready <;>
      simp only [exec, execPoll, hr, if_true, if_false, Bool.false_eq_true] at h <;> cases h
    · exact .inr (.inr (.inl ⟨rfl, rfl, rfl⟩))
    · exact .inr (.inl ⟨rfl, rfl, rfl⟩)

end Sys2Proof.Machine
end

