-- ==== Sys2Proof/Laws/PerInstr.lean ====
section
/-! SUPPORT. Per-instruction laws: one lemma per constructor of `Instr`. -/

namespace Sys2Proof.Laws

/-- Family EncodedWord: the encoder's words of a well-formed instruction carry exactly the `match` of its opcode-table
row (`step` is `K[6:0]`, the kind field is `K[8:7]`), its key is covered by that row, and the event word is the canonical
word of the instruction's event and fits the port of `W + 3` bits (spec/30_encoding.md R70, R71, R73). -/
def EncodedWord.Statement (i : Instr) : Prop :=
  ∀ W, i.wf W = true →
    dispatchKey (encode W i).step (instrEvent i) = (keyRow i).pattern ∧
    (keyRow i).covers (keyRow i).pattern = true ∧
    (encode W i).ev = encodeEvent W (instrEvent i) ∧
    (encode W i).ev < 2 ^ (W + 3)

/-- The statement for an EDGE row, whose event carries the instruction's timestamp. -/
theorem edge_encodedWord {i : Instr} {ts : Nat} {dir : Dir} (r : KeyRow) (he : instrEvent i = .edge ts dir)
    (ht : i.timestamp = ts) (hr : keyRow i = r) (hk : r.kindBits = 1) (hc : r.covers r.pattern = true) :
    EncodedWord.Statement i := fun W hw =>
  encodedWord_of_row r hr (by rw [hk, he]; rfl) hc
    (by rw [he]; simpa [Event.wf, Instr.wf, ht] using hw)

/-- The statement for an event without operands. -/
theorem plain_encodedWord {i : Instr} (r : KeyRow) (hr : keyRow i = r) (hk : r.kindBits = (instrEvent i).kind)
    (hc : r.covers r.pattern = true) (hw : ∀ W, (instrEvent i).wf W = true) : EncodedWord.Statement i := fun W _ =>
  encodedWord_of_row r hr hk hc (hw W)

theorem EncodedWord.nop : EncodedWord.Statement (.nop) :=
  plain_encodedWord ⟨0x000#9, 0x180#9⟩ rfl rfl (by decide) fun _ => rfl

theorem EncodedWord.edgeAwaitStart (dir : Dir) (ts : Nat) : EncodedWord.Statement (.edgeAwaitStart dir ts) :=
  edge_encodedWord ⟨0x080#9, 0x1ff#9⟩ rfl rfl rfl rfl (by decide)

theorem EncodedWord.edgeStartLow (dir : Dir) (ts : Nat) : EncodedWord.Statement (.edgeStartLow dir ts) :=
  edge_encodedWord ⟨0x081#9, 0x1ff#9⟩ rfl rfl rfl rfl (by decide)

theorem EncodedWord.edgeStartHigh (dir : Dir) (ts : Nat) : EncodedWord.Statement (.edgeStartHigh dir ts) :=
  edge_encodedWord ⟨0x082#9, 0x1ff#9⟩ rfl rfl rfl rfl (by decide)

theorem EncodedWord.edgeBitPulse0 (dir : Dir) (ts : Nat) : EncodedWord.Statement (.edgeBitPulse0 dir ts) :=
  edge_encodedWord ⟨0x083#9, 0x1ff#9⟩ rfl rfl rfl rfl (by decide)

theorem EncodedWord.edgeBitGap0 (dir : Dir) (ts : Nat) : EncodedWord.Statement (.edgeBitGap0 dir ts) :=
  edge_encodedWord ⟨0x084#9, 0x1ff#9⟩ rfl rfl rfl rfl (by decide)

theorem EncodedWord.edgeBitPulse1 (dir : Dir) (ts : Nat) : EncodedWord.Statement (.edgeBitPulse1 dir ts) :=
  edge_encodedWord ⟨0x085#9, 0x1ff#9⟩ rfl rfl rfl rfl (by decide)

theorem EncodedWord.edgeBitGap1 (dir : Dir) (ts : Nat) : EncodedWord.Statement (.edgeBitGap1 dir ts) :=
  edge_encodedWord ⟨0x086#9, 0x1ff#9⟩ rfl rfl rfl rfl (by decide)

theorem EncodedWord.edgeBitPulse2 (dir : Dir) (ts : Nat) : EncodedWord.Statement (.edgeBitPulse2 dir ts) :=
  edge_encodedWord ⟨0x087#9, 0x1ff#9⟩ rfl rfl rfl rfl (by decide)

theorem EncodedWord.edgeBitGap2 (dir : Dir) (ts : Nat) : EncodedWord.Statement (.edgeBitGap2 dir ts) :=
  edge_encodedWord ⟨0x088#9, 0x1ff#9⟩ rfl rfl rfl rfl (by decide)

theorem EncodedWord.edgeBitPulse3 (dir : Dir) (ts : Nat) : EncodedWord.Statement (.edgeBitPulse3 dir ts) :=
  edge_encodedWord ⟨0x089#9, 0x1ff#9⟩ rfl rfl rfl rfl (by decide)

theorem EncodedWord.edgeBitGap3 (dir : Dir) (ts : Nat) : EncodedWord.Statement (.edgeBitGap3 dir ts) :=
  edge_encodedWord ⟨0x08a#9, 0x1ff#9⟩ rfl rfl rfl rfl (by decide)

theorem EncodedWord.edgeBitPulse4 (dir : Dir) (ts : Nat) : EncodedWord.Statement (.edgeBitPulse4 dir ts) :=
  edge_encodedWord ⟨0x08b#9, 0x1ff#9⟩ rfl rfl rfl rfl (by decide)

theorem EncodedWord.edgeBitGap4 (dir : Dir) (ts : Nat) : EncodedWord.Statement (.edgeBitGap4 dir ts) :=
  edge_encodedWord ⟨0x08c#9, 0x1ff#9⟩ rfl rfl rfl rfl (by decide)

theorem EncodedWord.edgeBitPulse5 (dir : Dir) (ts : Nat) : EncodedWord.Statement (.edgeBitPulse5 dir ts) :=
  edge_encodedWord ⟨0x08d#9, 0x1ff#9⟩ rfl rfl rfl rfl (by decide)

theorem EncodedWord.edgeBitGap5 (dir : Dir) (ts : Nat) : EncodedWord.Statement (.edgeBitGap5 dir ts) :=
  edge_encodedWord ⟨0x08e#9, 0x1ff#9⟩ rfl rfl rfl rfl (by decide)

theorem EncodedWord.edgeBitPulse6 (dir : Dir) (ts : Nat) : EncodedWord.Statement (.edgeBitPulse6 dir ts) :=
  edge_encodedWord ⟨0x08f#9, 0x1ff#9⟩ rfl rfl rfl rfl (by decide)

theorem EncodedWord.edgeBitGap6 (dir : Dir) (ts : Nat) : EncodedWord.Statement (.edgeBitGap6 dir ts) :=
  edge_encodedWord ⟨0x090#9, 0x1ff#9⟩ rfl rfl rfl rfl (by decide)

theorem EncodedWord.edgeBitPulse7 (dir : Dir) (ts : Nat) : EncodedWord.Statement (.edgeBitPulse7 dir ts) :=
  edge_encodedWord ⟨0x091#9, 0x1ff#9⟩ rfl rfl rfl rfl (by decide)

theorem EncodedWord.edgeBitGap7 (dir : Dir) (ts : Nat) : EncodedWord.Statement (.edgeBitGap7 dir ts) :=
  edge_encodedWord ⟨0x092#9, 0x1ff#9⟩ rfl rfl rfl rfl (by decide)

theorem EncodedWord.edgeBitPulse8 (dir : Dir) (ts : Nat) : EncodedWord.Statement (.edgeBitPulse8 dir ts) :=
  edge_encodedWord ⟨0x093#9, 0x1ff#9⟩ rfl rfl rfl rfl (by decide)

theorem EncodedWord.edgeBitGap8 (dir : Dir) (ts : Nat) : EncodedWord.Statement (.edgeBitGap8 dir ts) :=
  edge_encodedWord ⟨0x094#9, 0x1ff#9⟩ rfl rfl rfl rfl (by decide)

theorem EncodedWord.edgeBitPulse9 (dir : Dir) (ts : Nat) : EncodedWord.Statement (.edgeBitPulse9 dir ts) :=
  edge_encodedWord ⟨0x095#9, 0x1ff#9⟩ rfl rfl rfl rfl (by decide)

theorem EncodedWord.edgeBitGap9 (dir : Dir) (ts : Nat) : EncodedWord.Statement (.edgeBitGap9 dir ts) :=
  edge_encodedWord ⟨0x096#9, 0x1ff#9⟩ rfl rfl rfl rfl (by decide)

theorem EncodedWord.edgeBitPulse10 (dir : Dir) (ts : Nat) : EncodedWord.Statement (.edgeBitPulse10 dir ts) :=
  edge_encodedWord ⟨0x097#9, 0x1ff#9⟩ rfl rfl rfl rfl (by decide)

theorem EncodedWord.edgeBitGap10 (dir : Dir) (ts : Nat) : EncodedWord.Statement (.edgeBitGap10 dir ts) :=
  edge_encodedWord ⟨0x098#9, 0x1ff#9⟩ rfl rfl rfl rfl (by decide)

theorem EncodedWord.edgeBitPulse11 (dir : Dir) (ts : Nat) : EncodedWord.Statement (.edgeBitPulse11 dir ts) :=
  edge_encodedWord ⟨0x099#9, 0x1ff#9⟩ rfl rfl rfl rfl (by decide)

theorem EncodedWord.edgeBitGap11 (dir : Dir) (ts : Nat) : EncodedWord.Statement (.edgeBitGap11 dir ts) :=
  edge_encodedWord ⟨0x09a#9, 0x1ff#9⟩ rfl rfl rfl rfl (by decide)

theorem EncodedWord.edgeBitPulse12 (dir : Dir) (ts : Nat) : EncodedWord.Statement (.edgeBitPulse12 dir ts) :=
  edge_encodedWord ⟨0x09b#9, 0x1ff#9⟩ rfl rfl rfl rfl (by decide)

theorem EncodedWord.edgeBitGap12 (dir : Dir) (ts : Nat) : EncodedWord.Statement (.edgeBitGap12 dir ts) :=
  edge_encodedWord ⟨0x09c#9, 0x1ff#9⟩ rfl rfl rfl rfl (by decide)

theorem EncodedWord.edgeBitPulse13 (dir : Dir) (ts : Nat) : EncodedWord.Statement (.edgeBitPulse13 dir ts) :=
  edge_encodedWord ⟨0x09d#9, 0x1ff#9⟩ rfl rfl rfl rfl (by decide)

theorem EncodedWord.edgeBitGap13 (dir : Dir) (ts : Nat) : EncodedWord.Statement (.edgeBitGap13 dir ts) :=
  edge_encodedWord ⟨0x09e#9, 0x1ff#9⟩ rfl rfl rfl rfl (by decide)

theorem EncodedWord.edgeBitPulse14 (dir : Dir) (ts : Nat) : EncodedWord.Statement (.edgeBitPulse14 dir ts) :=
  edge_encodedWord ⟨0x09f#9, 0x1ff#9⟩ rfl rfl rfl rfl (by decide)

theorem EncodedWord.edgeBitGap14 (dir : Dir) (ts : Nat) : EncodedWord.Statement (.edgeBitGap14 dir ts) :=
  edge_encodedWord ⟨0x0a0#9, 0x1ff#9⟩ rfl rfl rfl rfl (by decide)

theorem EncodedWord.edgeBitPulse15 (dir : Dir) (ts : Nat) : EncodedWord.Statement (.edgeBitPulse15 dir ts) :=
  edge_encodedWord ⟨0x0a1#9, 0x1ff#9⟩ rfl rfl rfl rfl (by decide)

theorem EncodedWord.edgeBitGap15 (dir : Dir) (ts : Nat) : EncodedWord.Statement (.edgeBitGap15 dir ts) :=
  edge_encodedWord ⟨0x0a2#9, 0x1ff#9⟩ rfl rfl rfl rfl (by decide)

theorem EncodedWord.edgeBitPulse16 (dir : Dir) (ts : Nat) : EncodedWord.Statement (.edgeBitPulse16 dir ts) :=
  edge_encodedWord ⟨0x0a3#9, 0x1ff#9⟩ rfl rfl rfl rfl (by decide)

theorem EncodedWord.edgeBitGap16 (dir : Dir) (ts : Nat) : EncodedWord.Statement (.edgeBitGap16 dir ts) :=
  edge_encodedWord ⟨0x0a4#9, 0x1ff#9⟩ rfl rfl rfl rfl (by decide)

theorem EncodedWord.edgeBitPulse17 (dir : Dir) (ts : Nat) : EncodedWord.Statement (.edgeBitPulse17 dir ts) :=
  edge_encodedWord ⟨0x0a5#9, 0x1ff#9⟩ rfl rfl rfl rfl (by decide)

theorem EncodedWord.edgeBitGap17 (dir : Dir) (ts : Nat) : EncodedWord.Statement (.edgeBitGap17 dir ts) :=
  edge_encodedWord ⟨0x0a6#9, 0x1ff#9⟩ rfl rfl rfl rfl (by decide)

theorem EncodedWord.edgeBitPulse18 (dir : Dir) (ts : Nat) : EncodedWord.Statement (.edgeBitPulse18 dir ts) :=
  edge_encodedWord ⟨0x0a7#9, 0x1ff#9⟩ rfl rfl rfl rfl (by decide)

theorem EncodedWord.edgeBitGap18 (dir : Dir) (ts : Nat) : EncodedWord.Statement (.edgeBitGap18 dir ts) :=
  edge_encodedWord ⟨0x0a8#9, 0x1ff#9⟩ rfl rfl rfl rfl (by decide)

theorem EncodedWord.edgeBitPulse19 (dir : Dir) (ts : Nat) : EncodedWord.Statement (.edgeBitPulse19 dir ts) :=
  edge_encodedWord ⟨0x0a9#9, 0x1ff#9⟩ rfl rfl rfl rfl (by decide)

theorem EncodedWord.edgeBitGap19 (dir : Dir) (ts : Nat) : EncodedWord.Statement (.edgeBitGap19 dir ts) :=
  edge_encodedWord ⟨0x0aa#9, 0x1ff#9⟩ rfl rfl rfl rfl (by decide)

theorem EncodedWord.edgeBitPulse20 (dir : Dir) (ts : Nat) : EncodedWord.Statement (.edgeBitPulse20 dir ts) :=
  edge_encodedWord ⟨0x0ab#9, 0x1ff#9⟩ rfl rfl rfl rfl (by decide)

theorem EncodedWord.edgeBitGap20 (dir : Dir) (ts : Nat) : EncodedWord.Statement (.edgeBitGap20 dir ts) :=
  edge_encodedWord ⟨0x0ac#9, 0x1ff#9⟩ rfl rfl rfl rfl (by decide)

theorem EncodedWord.edgeBitPulse21 (dir : Dir) (ts : Nat) : EncodedWord.Statement (.edgeBitPulse21 dir ts) :=
  edge_encodedWord ⟨0x0ad#9, 0x1ff#9⟩ rfl rfl rfl rfl (by decide)

theorem EncodedWord.edgeBitGap21 (dir : Dir) (ts : Nat) : EncodedWord.Statement (.edgeBitGap21 dir ts) :=
  edge_encodedWord ⟨0x0ae#9, 0x1ff#9⟩ rfl rfl rfl rfl (by decide)

theorem EncodedWord.edgeBitPulse22 (dir : Dir) (ts : Nat) : EncodedWord.Statement (.edgeBitPulse22 dir ts) :=
  edge_encodedWord ⟨0x0af#9, 0x1ff#9⟩ rfl rfl rfl rfl (by decide)

theorem EncodedWord.edgeBitGap22 (dir : Dir) (ts : Nat) : EncodedWord.Statement (.edgeBitGap22 dir ts) :=
  edge_encodedWord ⟨0x0b0#9, 0x1ff#9⟩ rfl rfl rfl rfl (by decide)

theorem EncodedWord.edgeBitPulse23 (dir : Dir) (ts : Nat) : EncodedWord.Statement (.edgeBitPulse23 dir ts) :=
  edge_encodedWord ⟨0x0b1#9, 0x1ff#9⟩ rfl rfl rfl rfl (by decide)

theorem EncodedWord.edgeBitGap23 (dir : Dir) (ts : Nat) : EncodedWord.Statement (.edgeBitGap23 dir ts) :=
  edge_encodedWord ⟨0x0b2#9, 0x1ff#9⟩ rfl rfl rfl rfl (by decide)

theorem EncodedWord.edgeBitPulse24 (dir : Dir) (ts : Nat) : EncodedWord.Statement (.edgeBitPulse24 dir ts) :=
  edge_encodedWord ⟨0x0b3#9, 0x1ff#9⟩ rfl rfl rfl rfl (by decide)

theorem EncodedWord.edgeBitGap24 (dir : Dir) (ts : Nat) : EncodedWord.Statement (.edgeBitGap24 dir ts) :=
  edge_encodedWord ⟨0x0b4#9, 0x1ff#9⟩ rfl rfl rfl rfl (by decide)

theorem EncodedWord.edgeBitPulse25 (dir : Dir) (ts : Nat) : EncodedWord.Statement (.edgeBitPulse25 dir ts) :=
  edge_encodedWord ⟨0x0b5#9, 0x1ff#9⟩ rfl rfl rfl rfl (by decide)

theorem EncodedWord.edgeBitGap25 (dir : Dir) (ts : Nat) : EncodedWord.Statement (.edgeBitGap25 dir ts) :=
  edge_encodedWord ⟨0x0b6#9, 0x1ff#9⟩ rfl rfl rfl rfl (by decide)

theorem EncodedWord.edgeBitPulse26 (dir : Dir) (ts : Nat) : EncodedWord.Statement (.edgeBitPulse26 dir ts) :=
  edge_encodedWord ⟨0x0b7#9, 0x1ff#9⟩ rfl rfl rfl rfl (by decide)

theorem EncodedWord.edgeBitGap26 (dir : Dir) (ts : Nat) : EncodedWord.Statement (.edgeBitGap26 dir ts) :=
  edge_encodedWord ⟨0x0b8#9, 0x1ff#9⟩ rfl rfl rfl rfl (by decide)

theorem EncodedWord.edgeBitPulse27 (dir : Dir) (ts : Nat) : EncodedWord.Statement (.edgeBitPulse27 dir ts) :=
  edge_encodedWord ⟨0x0b9#9, 0x1ff#9⟩ rfl rfl rfl rfl (by decide)

theorem EncodedWord.edgeBitGap27 (dir : Dir) (ts : Nat) : EncodedWord.Statement (.edgeBitGap27 dir ts) :=
  edge_encodedWord ⟨0x0ba#9, 0x1ff#9⟩ rfl rfl rfl rfl (by decide)

theorem EncodedWord.edgeBitPulse28 (dir : Dir) (ts : Nat) : EncodedWord.Statement (.edgeBitPulse28 dir ts) :=
  edge_encodedWord ⟨0x0bb#9, 0x1ff#9⟩ rfl rfl rfl rfl (by decide)

theorem EncodedWord.edgeBitGap28 (dir : Dir) (ts : Nat) : EncodedWord.Statement (.edgeBitGap28 dir ts) :=
  edge_encodedWord ⟨0x0bc#9, 0x1ff#9⟩ rfl rfl rfl rfl (by decide)

theorem EncodedWord.edgeBitPulse29 (dir : Dir) (ts : Nat) : EncodedWord.Statement (.edgeBitPulse29 dir ts) :=
  edge_encodedWord ⟨0x0bd#9, 0x1ff#9⟩ rfl rfl rfl rfl (by decide)

theorem EncodedWord.edgeBitGap29 (dir : Dir) (ts : Nat) : EncodedWord.Statement (.edgeBitGap29 dir ts) :=
  edge_encodedWord ⟨0x0be#9, 0x1ff#9⟩ rfl rfl rfl rfl (by decide)

theorem EncodedWord.edgeBitPulse30 (dir : Dir) (ts : Nat) : EncodedWord.Statement (.edgeBitPulse30 dir ts) :=
  edge_encodedWord ⟨0x0bf#9, 0x1ff#9⟩ rfl rfl rfl rfl (by decide)

theorem EncodedWord.edgeBitGap30 (dir : Dir) (ts : Nat) : EncodedWord.Statement (.edgeBitGap30 dir ts) :=
  edge_encodedWord ⟨0x0c0#9, 0x1ff#9⟩ rfl rfl rfl rfl (by decide)

theorem EncodedWord.edgeBitPulse31 (dir : Dir) (ts : Nat) : EncodedWord.Statement (.edgeBitPulse31 dir ts) :=
  edge_encodedWord ⟨0x0c1#9, 0x1ff#9⟩ rfl rfl rfl rfl (by decide)

theorem EncodedWord.edgeBitGap31 (dir : Dir) (ts : Nat) : EncodedWord.Statement (.edgeBitGap31 dir ts) :=
  edge_encodedWord ⟨0x0c2#9, 0x1ff#9⟩ rfl rfl rfl rfl (by decide)

theorem EncodedWord.edgeStopPulse (dir : Dir) (ts : Nat) : EncodedWord.Statement (.edgeStopPulse dir ts) :=
  edge_encodedWord ⟨0x0c3#9, 0x1ff#9⟩ rfl rfl rfl rfl (by decide)

theorem EncodedWord.edgeBadStep68_71 (dir : Dir) (ts : Nat) : EncodedWord.Statement (.edgeBadStep68_71 dir ts) :=
  edge_encodedWord ⟨0x0c4#9, 0x1fc#9⟩ rfl rfl rfl rfl (by decide)

theorem EncodedWord.edgeBadStep72_79 (dir : Dir) (ts : Nat) : EncodedWord.Statement (.edgeBadStep72_79 dir ts) :=
  edge_encodedWord ⟨0x0c8#9, 0x1f8#9⟩ rfl rfl rfl rfl (by decide)

theorem EncodedWord.edgeBadStep80_95 (dir : Dir) (ts : Nat) : EncodedWord.Statement (.edgeBadStep80_95 dir ts) :=
  edge_encodedWord ⟨0x0d0#9, 0x1f0#9⟩ rfl rfl rfl rfl (by decide)

theorem EncodedWord.edgeBadStep96_127 (dir : Dir) (ts : Nat) : EncodedWord.Statement (.edgeBadStep96_127 dir ts) :=
  edge_encodedWord ⟨0x0e0#9, 0x1e0#9⟩ rfl rfl rfl rfl (by decide)

theorem EncodedWord.poll : EncodedWord.Statement (.poll) :=
  plain_encodedWord ⟨0x100#9, 0x180#9⟩ rfl rfl (by decide) fun _ => rfl

theorem EncodedWord.reset : EncodedWord.Statement (.reset) :=
  plain_encodedWord ⟨0x180#9, 0x180#9⟩ rfl rfl (by decide) fun _ => rfl

end Sys2Proof.Laws
end

