-- ==== Sys2Proof/Laws/Step.lean ====
section
/-! SUPPORT. What a step does: it fetches, consumes the word and runs the instruction. -/

namespace Sys2Proof.Machine

/-- A step that answers ran the fetched instruction on the state without the word. -/
theorem step_cases {s t : State} (h : step s = .next t) :
    ∃ i, fetch s = .ok i ∧ exec i s.consumed = .next t := by
  unfold step at h
  cases hf : fetch s with
  | ok i => rw [hf] at h; exact ⟨i, rfl, h⟩
  | error r => rw [hf] at h; cases r; cases h

/-- A step whose fetch succeeds. -/
theorem step_of_fetch {s : State} {i : Instr} (h : fetch s = .ok i) : step s = exec i s.consumed := by
  unfold step; rw [h]

/-- What is fetched is the event on `ev`, dispatched on the stored `step`. -/
theorem fetch_ok_iff {s : State} {i : Instr} :
    fetch s = .ok i ↔ ∃ e, decodeEvent s.cfg.TS_WIDTH s.evPort = .ok e ∧ i = dispatch s.decoder.step e :=
  decode_ok_iff

/-- A pending event of legal width is what the step performs. -/
theorem fetch_of_event {s : State} {e : Event} {rest : List Nat} (hp : s.pending = encodeEvent s.cfg.TS_WIDTH e :: rest)
    (hw : e.wf s.cfg.TS_WIDTH = true) : fetch s = .ok (dispatch s.decoder.step e) :=
  fetch_ok_iff.mpr ⟨e, by simpa [State.evPort, hp] using decodeEvent_encode _ e hw, rfl⟩

/-- An EDGE read from the word is what makes it an EDGE word. -/
theorem isEdgeWord_iff {W ev : Nat} :
    isEdgeWord W ev = true ↔ ∃ ts dir, decodeEvent W ev = .ok (.edge ts dir) := by
  unfold isEdgeWord
  cases h : decodeEvent W ev with
  | error r => simp
  | ok e => cases e <;> simp

/-- The edges of `n + 1` slots: the one on the port, if it is one, and those of the next `n`. -/
theorem edgesIn_succ (n : Nat) (s : State) :
    edgesIn (n + 1) s = edgesIn n s.consumed + (if isEdgeWord s.cfg.TS_WIDTH s.evPort then 1 else 0) := by
  unfold edgesIn State.evPort
  cases hp : s.pending with
  | nil =>
    have hn := decodeEvent_of_kind s.cfg.TS_WIDTH 0 0 (by positivity)
    simp only [Nat.zero_mul, Nat.zero_add] at hn
    simp [isEdgeWord, hn, hp]
  | cons ev rest => simp [List.countP_cons, hp]

/-- No step is no change. -/
@[simp] theorem run_zero (s : State) : run 0 s = .next s := rfl

/-- A run, its first step taken. -/
theorem run_succ_of_next {s u : State} (n : Nat) (h : step s = .next u) : run (n + 1) s = run n u := by
  have hs : Sys2Proof.core.step s = .next u := h
  show Host.Core.run Sys2Proof.core (n + 1) s = Host.Core.run Sys2Proof.core n u
  simp only [Host.Core.run, hs]

/-- A run of `n + 1` steps that answers: a first step and a run of `n`. -/
theorem run_succ_inv {n : Nat} {s t : State} (h : run (n + 1) s = .next t) :
    ∃ u, step s = .next u ∧ run n u = .next t := by
  cases hs : step s with
  | next u => exact ⟨u, rfl, run_succ_of_next n hs ▸ h⟩
  | fault r => cases r
  | refused r =>
    have hs' : Sys2Proof.core.step s = .refused r := hs
    simp only [run, Host.Core.run, hs'] at h
    cases h

/-- A run of `n + 1` steps that answers: a run of `n` and a last step. -/
theorem run_succ_inv_last {n : Nat} {s t : State} (h : run (n + 1) s = .next t) :
    ∃ u, run n s = .next u ∧ step u = .next t := by
  induction n generalizing s with
  | zero =>
    obtain ⟨u, hu, hr⟩ := run_succ_inv h
    cases hr; exact ⟨s, rfl, hu⟩
  | succ n ih =>
    obtain ⟨u, hu, hr⟩ := run_succ_inv h
    obtain ⟨v, hv, hl⟩ := ih hr
    exact ⟨v, (run_succ_of_next n hu).trans hv, hl⟩

/-- A run cut in two. -/
theorem run_add (m n : Nat) {s t : State} (h : run m s = .next t) : run (m + n) s = run n t := by
  induction m generalizing s with
  | zero => cases h; rw [Nat.zero_add]
  | succ m ih =>
    obtain ⟨u, hu, hr⟩ := run_succ_inv h
    rw [show m + 1 + n = (m + n) + 1 by omega, run_succ_of_next _ hu]
    exact ih hr

end Sys2Proof.Machine
end

