-- ==== Sys2Proof/Tests/Slice0.lean ====
section
/-! SUPPORT. The model's own tests: the well-formedness smoke test, decoding from words written out from the spec's
encodings, one-step vectors of spec/95_test_vectors.md (their ids stand in the docstrings), and for every obligation with
hypotheses a witness that meets them. Expected values come from spec/. -/

namespace Sys2Proof.Tests

open Sys2Proof Sys2Proof.Machine

/-! ### Helpers -/

/-- Response, label and DecoderState of a next state. -/
def seen (o : Host.Outcome State Fault Refusal) : Option (Response × Option Cause × DecoderState) :=
  match o with
  | .next t => some (t.resp, t.cause, t.decoder)
  | _       => none

/-- Response and mailbox of a next state. -/
def seenBox (o : Host.Outcome State Fault Refusal) : Option (Response × Mailbox) :=
  match o with
  | .next t => some (t.resp, t.mailbox)
  | _       => none

/-- A next state, and a test of it. -/
def nextHolds (P : State → Bool) (o : Host.Outcome State Fault Refusal) : Bool :=
  match o with
  | .next t => P t
  | _       => false

theorem exists_next {o : Host.Outcome State Fault Refusal} (P : State → Bool) (h : nextHolds P o = true) :
    ∃ t, o = .next t ∧ P t = true := by
  cases o with
  | next t => exact ⟨t, rfl, h⟩
  | fault r => cases h
  | refused r => cases h

/-- Strict mode, default `cfg`, empty mailbox, this DecoderState. -/
def strict (step : StepReg) (last_ts : Nat) (a ai c ci : Byte) (dir : Dir) : State :=
  { State.reset with decoder := ⟨step, last_ts, a, ai, c, ci, dir⟩ }

/-- The same in trust mode. -/
def trust (step : StepReg) (last_ts : Nat) (a ai c ci : Byte) (dir : Dir) : State :=
  { strict step last_ts a ai c ci dir with cfg := { Cfg.defaults with POLARITY_STRICT := false } }

/-- The same state with a frame in the mailbox. -/
def full (s : State) (a c : Byte) : State := { s with mailbox := ⟨true, a, c⟩ }

/-- The state when this event is the one on `ev`. -/
def on (s : State) (e : Event) : State := s.withEvents [e]

/-! ### Well-formedness -/

/-- R72: a timestamp of 16 bits is well formed, one of 17 is not. -/
theorem test_wf_timestamp_fits :
    (Instr.edgeStartLow .rising 65535).wf 16 = true ∧ (Instr.edgeStartLow .rising 65536).wf 16 = false ∧
    (Event.edge 65535 .falling).wf 16 = true ∧ (Event.edge 65536 .falling).wf 16 = false := by decide

/-- R72 at `TS_WIDTH` = 1. -/
theorem test_wf_one_bit : fitsTicks 1 1 = true ∧ fitsTicks 1 2 = false := by decide

/-! ### Decoding -/

/-- NOP, POLL, RESET at `step` 0: the `encoding` column, `sssssss` = 0. -/
theorem test_decode_host_events :
    [(0b000000000, .nop), (0b100000000, .poll),
     (0b110000000, .reset)].all
      (fun p : Nat × Instr => decodeTableWord 16 p.1 == some p.2) = true := by decide

/-- EDGE.AWAIT_START, EDGE.START_LOW, EDGE.START_HIGH, EDGE.STOP_PULSE. -/
theorem test_decode_start_and_stop :
    [(0b010000000, .edgeAwaitStart .falling 0), (0b010000001, .edgeStartLow .falling 0),
     (0b010000010, .edgeStartHigh .falling 0), (0b011000011, .edgeStopPulse .falling 0)].all
      (fun p : Nat × Instr => decodeTableWord 16 p.1 == some p.2) = true := by decide

/-- EDGE.BIT_PULSE.0 to .15. -/
theorem test_decode_bit_pulse_0_to_15 :
    [(0b010000011, .edgeBitPulse0 .falling 0), (0b010000101, .edgeBitPulse1 .falling 0),
     (0b010000111, .edgeBitPulse2 .falling 0), (0b010001001, .edgeBitPulse3 .falling 0),
     (0b010001011, .edgeBitPulse4 .falling 0), (0b010001101, .edgeBitPulse5 .falling 0),
     (0b010001111, .edgeBitPulse6 .falling 0), (0b010010001, .edgeBitPulse7 .falling 0),
     (0b010010011, .edgeBitPulse8 .falling 0), (0b010010101, .edgeBitPulse9 .falling 0),
     (0b010010111, .edgeBitPulse10 .falling 0), (0b010011001, .edgeBitPulse11 .falling 0),
     (0b010011011, .edgeBitPulse12 .falling 0), (0b010011101, .edgeBitPulse13 .falling 0),
     (0b010011111, .edgeBitPulse14 .falling 0), (0b010100001, .edgeBitPulse15 .falling 0)].all
      (fun p : Nat × Instr => decodeTableWord 16 p.1 == some p.2) = true := by decide

/-- EDGE.BIT_PULSE.16 to .31. -/
theorem test_decode_bit_pulse_16_to_31 :
    [(0b010100011, .edgeBitPulse16 .falling 0), (0b010100101, .edgeBitPulse17 .falling 0),
     (0b010100111, .edgeBitPulse18 .falling 0), (0b010101001, .edgeBitPulse19 .falling 0),
     (0b010101011, .edgeBitPulse20 .falling 0), (0b010101101, .edgeBitPulse21 .falling 0),
     (0b010101111, .edgeBitPulse22 .falling 0), (0b010110001, .edgeBitPulse23 .falling 0),
     (0b010110011, .edgeBitPulse24 .falling 0), (0b010110101, .edgeBitPulse25 .falling 0),
     (0b010110111, .edgeBitPulse26 .falling 0), (0b010111001, .edgeBitPulse27 .falling 0),
     (0b010111011, .edgeBitPulse28 .falling 0), (0b010111101, .edgeBitPulse29 .falling 0),
     (0b010111111, .edgeBitPulse30 .falling 0), (0b011000001, .edgeBitPulse31 .falling 0)].all
      (fun p : Nat × Instr => decodeTableWord 16 p.1 == some p.2) = true := by decide

/-- EDGE.BIT_GAP.0 to .15. -/
theorem test_decode_bit_gap_0_to_15 :
    [(0b010000100, .edgeBitGap0 .falling 0), (0b010000110, .edgeBitGap1 .falling 0),
     (0b010001000, .edgeBitGap2 .falling 0), (0b010001010, .edgeBitGap3 .falling 0),
     (0b010001100, .edgeBitGap4 .falling 0), (0b010001110, .edgeBitGap5 .falling 0),
     (0b010010000, .edgeBitGap6 .falling 0), (0b010010010, .edgeBitGap7 .falling 0),
     (0b010010100, .edgeBitGap8 .falling 0), (0b010010110, .edgeBitGap9 .falling 0),
     (0b010011000, .edgeBitGap10 .falling 0), (0b010011010, .edgeBitGap11 .falling 0),
     (0b010011100, .edgeBitGap12 .falling 0), (0b010011110, .edgeBitGap13 .falling 0),
     (0b010100000, .edgeBitGap14 .falling 0), (0b010100010, .edgeBitGap15 .falling 0)].all
      (fun p : Nat × Instr => decodeTableWord 16 p.1 == some p.2) = true := by decide

/-- EDGE.BIT_GAP.16 to .31. -/
theorem test_decode_bit_gap_16_to_31 :
    [(0b010100100, .edgeBitGap16 .falling 0), (0b010100110, .edgeBitGap17 .falling 0),
     (0b010101000, .edgeBitGap18 .falling 0), (0b010101010, .edgeBitGap19 .falling 0),
     (0b010101100, .edgeBitGap20 .falling 0), (0b010101110, .edgeBitGap21 .falling 0),
     (0b010110000, .edgeBitGap22 .falling 0), (0b010110010, .edgeBitGap23 .falling 0),
     (0b010110100, .edgeBitGap24 .falling 0), (0b010110110, .edgeBitGap25 .falling 0),
     (0b010111000, .edgeBitGap26 .falling 0), (0b010111010, .edgeBitGap27 .falling 0),
     (0b010111100, .edgeBitGap28 .falling 0), (0b010111110, .edgeBitGap29 .falling 0),
     (0b011000000, .edgeBitGap30 .falling 0), (0b011000010, .edgeBitGap31 .falling 0)].all
      (fun p : Nat × Instr => decodeTableWord 16 p.1 == some p.2) = true := by decide

/-- EDGE.BAD_STEP.68_71, .72_79, .80_95, .96_127 at the first `step` of each. -/
theorem test_decode_bad_step :
    [(0b011000100, .edgeBadStep68_71 .falling 0), (0b011001000, .edgeBadStep72_79 .falling 0),
     (0b011010000, .edgeBadStep80_95 .falling 0), (0b011100000, .edgeBadStep96_127 .falling 0)].all
      (fun p : Nat × Instr => decodeTableWord 16 p.1 == some p.2) = true := by decide

/-- R73: the last `step` of each EDGE.BAD_STEP row, and the ends of the `sssssss` field of a host event. -/
theorem test_decode_free_step_bits :
    [(0b011000111, .edgeBadStep68_71 .falling 0), (0b011001111, .edgeBadStep72_79 .falling 0),
     (0b011011111, .edgeBadStep80_95 .falling 0), (0b011111111, .edgeBadStep96_127 .falling 0),
     (0b001111111, .nop), (0b101111111, .poll), (0b111111111, .reset)].all
      (fun p : Nat × Instr => decodeTableWord 16 p.1 == some p.2) = true := by decide

/-- Log entry 9: the bits above the nine of the key are not read (EDGE.BIT_PULSE.9 with bits 9 and 21 set). -/
theorem test_decode_bits_above_the_key : decodeTableWord 24 0b1000000000001010010101 = some (.edgeBitPulse9 .falling 0) := by
  decide

/-- W1 to W10: the event words. -/
theorem test_event_words :
    [(0x00000, .nop), (0x20000, .edge 0 .falling), (0x30000, .edge 0 .rising), (0x203E8, .edge 1000 .falling),
     (0x32710, .edge 10000 .rising), (0x2FFFF, .edge 65535 .falling), (0x3FFFF, .edge 65535 .rising),
     (0x3E244, .edge 57924 .rising), (0x40000, .poll), (0x60000, .reset)].all
      (fun p : Nat × Event => decide (decodeEvent 16 p.1 = .ok p.2) && (encodeEvent 16 p.2 == p.1)) = true := by decide

/-- The words after W10, whose ignored fields are not zero (R79 item 3), and the first number that is no event word. -/
theorem test_event_words_ignored_fields :
    decodeEvent 16 0x00001 = .ok .nop ∧ decodeEvent 16 0x1FFFF = .ok .nop ∧ decodeEvent 16 0x40001 = .ok .poll ∧
    decodeEvent 16 0x5FFFF = .ok .poll ∧ decodeEvent 16 0x60001 = .ok .reset ∧ decodeEvent 16 0x7FFFF = .ok .reset ∧
    decodeEvent 16 0x80000 = .error .eventWordTooWide := by decide

/-- W11 to W19: the response words. -/
theorem test_response_words :
    Response.ack.word = 0x00000 ∧ Response.pending.word = 0x10000 ∧ (Response.frameReady 0x00 0x45).word = 0x20045 ∧
    (Response.frameReady 0xFF 0x00).word = 0x2FF00 ∧ (Response.frameReady 0xA5 0x3C).word = 0x2A53C ∧
    Response.resync.word = 0x30000 ∧ Response.pollNone.word = 0x40000 ∧ (Response.pollSome 0x00 0x45).word = 0x50045 ∧
    (Response.pollSome 0xFF 0xFF).word = 0x5FFFF := by decide

/-- R73's own examples of keys. -/
theorem test_dispatch_keys :
    dispatchKey 0 (.edge 0 .falling) = 0x080 ∧ dispatchKey 2 (.edge 0 .rising) = 0x082 ∧
    dispatchKey 66 (.edge 0 .falling) = 0x0C2 ∧ dispatchKey 0 .poll = 0x100 ∧ dispatchKey 127 .reset = 0x1FF := by decide

/-! ### The classifier -/

/-- I1, I2, I3, I5, I6, I11, I14, I16. -/
theorem test_interval :
    interval 16 1000 10000 = 9000 ∧ interval 16 60000 3464 = 9000 ∧ interval 16 65535 0 = 1 ∧ interval 16 5 5 = 0 ∧
    interval 16 100 99 = 65535 ∧ interval 8 200 44 = 100 ∧ interval 32 4294967000 704 = 1000 ∧
    interval 1 1 0 = 1 := by decide

/-- M49, M51 to M53, M54 to M60: empty window, one value, a lower bound below 0, an upper bound above 2^16. -/
theorem test_matches_corners :
    (Window.mk 1120 0).admits 1120 = false ∧ (Window.mk 1120 1).admits 1120 = true ∧
    (Window.mk 1120 1).admits 1119 = false ∧ (Window.mk 1120 1).admits 1121 = false ∧
    (Window.mk 100 150).admits 0 = true ∧ (Window.mk 100 150).admits 249 = true ∧
    (Window.mk 100 150).admits 250 = false ∧ (Window.mk 100 150).admits 65500 = false ∧
    (Window.mk 65500 100).admits 65535 = true ∧ (Window.mk 65500 100).admits 63 = false ∧
    (Window.mk 65500 100).admits 65400 = false := by decide

/-- M2, M3, M5, M6, M30, M31, M33, M34: the open boundaries. -/
theorem test_matches_boundaries :
    Cfg.defaults.START_LOW.admits 8800 = false ∧ Cfg.defaults.START_LOW.admits 8801 = true ∧
    Cfg.defaults.START_LOW.admits 9199 = true ∧ Cfg.defaults.START_LOW.admits 9200 = false ∧
    Cfg.defaults.BIT_ONE_GAP.admits 3080 = false ∧ Cfg.defaults.BIT_ONE_GAP.admits 3081 = true ∧
    Cfg.defaults.BIT_ONE_GAP.admits 3679 = true ∧ Cfg.defaults.BIT_ONE_GAP.admits 3680 = false := by decide

/-- G3, G6, G9, G12, and with BIT_ONE_GAP 1300 ± 300 G17, G18, G20, G21. -/
theorem test_gap_class :
    let o : Cfg := { Cfg.defaults with BIT_ONE_GAP := ⟨1300, 300⟩ }
    gapClass .defaults 971 = .zero ∧ gapClass .defaults 1270 = .neither ∧ gapClass .defaults 3081 = .one ∧
    gapClass .defaults 3680 = .neither ∧ gapClass o 1000 = .zero ∧ gapClass o 1001 = .neither ∧
    gapClass o 1269 = .neither ∧ gapClass o 1270 = .one := by decide

/-- Q1, Q2, Q3, Q4, Q6, Q8. -/
theorem test_complement_ok :
    (strict 67 0 0x00 0xFF 0x45 0xBA .rising).decoder.complementOk = true ∧
    (strict 67 0 0x00 0xFF 0x45 0xBB .rising).decoder.complementOk = false ∧
    (strict 67 0 0x00 0xFE 0x45 0xBA .rising).decoder.complementOk = false ∧
    (strict 67 0 0x00 0x00 0x00 0x00 .rising).decoder.complementOk = false ∧
    (strict 67 0 0xFF 0xFF 0x00 0xFF .rising).decoder.complementOk = false ∧
    (strict 67 0 0x12 0x34 0x56 0xA9 .rising).decoder.complementOk = false := by decide

/-! ### One event -/

/-- B1. -/
theorem test_await_start :
    seen (step (on State.reset (.edge 1000 .falling))) =
      some (.pending, none, ⟨1, 1000, 0, 0, 0, 0, .rising⟩) := by decide

/-- B6: trust mode, RISING at `step` 0; the stored direction still toggles. -/
theorem test_await_start_trust :
    seen (step (on (trust 0 0 0 0 0 0 .falling) (.edge 1000 .rising))) =
      some (.pending, none, ⟨1, 1000, 0, 0, 0, 0, .rising⟩) := by decide

/-- B13: across the wrap. -/
theorem test_start_low_wrap :
    seen (step (on (strict 1 60000 0 0 0 0 .rising) (.edge 3464 .rising))) =
      some (.pending, none, ⟨2, 3464, 0, 0, 0, 0, .falling⟩) := by decide

/-- B10: the lower boundary is rejected. -/
theorem test_start_low_boundary :
    seen (step (on (strict 1 1000 0 0 0 0 .rising) (.edge 9800 .rising))) =
      some (.resync, some .timingMismatch, .INIT) := by decide

/-- B22. -/
theorem test_start_high :
    seen (step (on (strict 2 10000 0 0 0 0 .falling) (.edge 14699 .falling))) =
      some (.pending, none, ⟨3, 14699, 0, 0, 0, 0, .rising⟩) := by decide

/-- B25: the polarity check. -/
theorem test_start_high_wrong_direction :
    seen (step (on (strict 2 10000 0 0 0 0 .falling) (.edge 14500 .rising))) =
      some (.resync, some .polarityViolation, .INIT) := by decide

/-- B31: the accumulators are kept. -/
theorem test_bit_pulse :
    seen (step (on (strict 35 2884 0 0xFF 0 0 .rising) (.edge 4004 .rising))) =
      some (.pending, none, ⟨36, 4004, 0, 0xFF, 0, 0, .falling⟩) := by decide

/-- B32: the accumulators are cleared. -/
theorem test_bit_pulse_too_long :
    seen (step (on (strict 35 2884 0 0xFF 0 0 .rising) (.edge 6264 .rising))) =
      some (.resync, some .timingMismatch, .INIT) := by decide

/-- B47 and B48: the last bit of the first byte and the first of the second. -/
theorem test_bit_gap_byte_border :
    seen (step (on (strict 18 1000 0x7F 0 0 0 .falling) (.edge 4380 .falling))) =
      some (.pending, none, ⟨19, 4380, 0xFF, 0, 0, 0, .rising⟩) ∧
    seen (step (on (strict 20 1000 0 0 0 0 .falling) (.edge 4380 .falling))) =
      some (.pending, none, ⟨21, 4380, 0, 0x01, 0, 0, .rising⟩) := by decide

/-- B52, B56, B57. -/
theorem test_bit_gap_command_bytes :
    seen (step (on (strict 40 10744 0 0xFF 0x01 0 .falling) (.edge 14124 .falling))) =
      some (.pending, none, ⟨41, 14124, 0, 0xFF, 0x05, 0, .rising⟩) ∧
    seen (step (on (strict 66 1000 0 0xFF 0x45 0x3A .falling) (.edge 4380 .falling))) =
      some (.pending, none, ⟨67, 4380, 0, 0xFF, 0x45, 0xBA, .rising⟩) ∧
    seen (step (on (strict 66 1000 0 0xFF 0x45 0x3A .falling) (.edge 2120 .falling))) =
      some (.pending, none, ⟨67, 2120, 0, 0xFF, 0x45, 0x3A, .rising⟩) := by decide

/-- B65: a frame over an unread one. -/
theorem test_stop_pulse_overwrites :
    seenBox (step (on (full (strict 67 56804 0x00 0xFF 0x45 0xBA .rising) 0x10 0x20) (.edge 57924 .rising))) =
      some (.frameReady 0x00 0x45, ⟨true, 0x00, 0x45⟩) := by decide

/-- B70 and B72: a wrong complement keeps the mailbox; a bad interval is looked at first. -/
theorem test_stop_pulse_failures :
    seenBox (step (on (full (strict 67 56804 0x00 0xFF 0x45 0xBB .rising) 0x10 0x20) (.edge 57924 .rising))) =
      some (.resync, ⟨true, 0x10, 0x20⟩) ∧
    seen (step (on (strict 67 56804 0x00 0xFE 0x45 0xBA .rising) (.edge 60184 .rising))) =
      some (.resync, some .timingMismatch, .INIT) := by decide

/-- B76, B80: `step` 68 and 127. -/
theorem test_bad_step :
    seen (step (on (strict 68 1000 1 2 3 4 .rising) (.edge 2120 .rising))) =
      some (.resync, some .unreachableStep, .INIT) ∧
    seen (step (on (trust 127 1000 0 0 0 0 .falling) (.edge 2120 .rising))) =
      some (.resync, some .unreachableStep, .INIT) := by decide

/-- H2, H3. -/
theorem test_poll :
    seenBox (step (on (full State.reset 0x00 0x45) .poll)) = some (.pollSome 0x00 0x45, ⟨false, 0x00, 0x45⟩) ∧
    seenBox (step (on { State.reset with mailbox := ⟨false, 0x00, 0x45⟩ } .poll)) =
      some (.pollNone, ⟨false, 0x00, 0x45⟩) := by decide

/-- H6. -/
theorem test_nop :
    seen (step (on (strict 30 1000 0 0x1F 0 0 .falling) .nop)) =
      some (.ack, none, ⟨30, 1000, 0, 0x1F, 0, 0, .falling⟩) := by decide

/-- H10. -/
theorem test_reset :
    seen (step (on (full (strict 127 65535 0xFF 0xFF 0xFF 0xFF .rising) 0xFF 0xFF) .reset)) =
      some (.ack, none, .INIT) ∧
    seenBox (step (on (full (strict 127 65535 0xFF 0xFF 0xFF 0xFF .rising) 0xFF 0xFF) .reset)) =
      some (.ack, .EMPTY) := by decide

/-- A table word is what the next step runs (R73, log entry 9). -/
theorem test_withFetchWord :
    fetch (State.reset.withFetchWord 16 0x0C2) = .ok (.edgeBitGap31 .falling 0) ∧
    fetch (State.reset.withFetchWord 16 0x100) = .ok .poll ∧
    seen (step (State.reset.withFetchWord 16 0x080)) = some (.pending, none, ⟨1, 0, 0, 0, 0, 0, .rising⟩) ∧
    seen (step (State.reset.withFetchWord 16 0x0FF)) = some (.resync, some .unreachableStep, .INIT) := by decide

/-- R82 and P1: the first edges of `NECFRAME 1000, 0x00, 0x45`, and how many there are. -/
theorem test_necframe :
    (Trace.necframe .defaults 1000 0x00 0x45).length = 68 ∧
    ((Trace.necframe .defaults 1000 0x00 0x45).map (encodeEvent 16)).take 4 =
      [0x203E8, 0x32710, 0x238A4, 0x33D04] := by decide

/-- R57: RESET, then POLL, then EDGE. -/
theorem test_serialise : Trace.serialise true true (some (5, .rising)) = [.reset, .poll, .edge 5 .rising] := by decide

/-- R81: one event and one response of a trace, as text. -/
theorem test_text :
    Trace.eventText (.edge 1000 .falling) = "EDGE 1000 F" ∧
    Trace.responseText (.frameReady 0x00 0x45) = "FrameReady(0x00, 0x45)" := by decide

/-! ### Witnesses for the obligations

Each shows that the hypotheses of the obligation in its name can be met together, clause by clause where the conclusion
has clauses. -/

/-- Strict mode and trust mode. -/
theorem witness_AwaitStartAcceptsTheFirstEdge :
    ((strict 0 5000 0 0 0 0 .falling).decoder.step = 0 ∧ polarityPasses (strict 0 5000 0 0 0 0 .falling) .falling) ∧
    ((trust 0 0 0 0 0 0 .falling).decoder.step = 0 ∧ polarityPasses (trust 0 0 0 0 0 0 .falling) .rising) :=
  ⟨⟨rfl, fun _ => rfl⟩, ⟨rfl, fun h => absurd h (by decide)⟩⟩

/-- 8801 ticks and 8800 ticks. -/
theorem witness_StartLowTestsTheLeadingPulse :
    (strict 1 1000 0 0 0 0 .rising).decoder.step = 1 ∧ polarityPasses (strict 1 1000 0 0 0 0 .rising) .rising ∧
    Cfg.defaults.START_LOW.admits (interval 16 1000 9801) = true ∧
    Cfg.defaults.START_LOW.admits (interval 16 1000 9800) = false :=
  ⟨rfl, fun _ => rfl, by decide, by decide⟩

/-- 4699 ticks and 4700 ticks. -/
theorem witness_StartHighTestsTheLeadingGap :
    (strict 2 10000 0 0 0 0 .falling).decoder.step = 2 ∧ polarityPasses (strict 2 10000 0 0 0 0 .falling) .falling ∧
    Cfg.defaults.START_HIGH.admits (interval 16 10000 14699) = true ∧
    Cfg.defaults.START_HIGH.admits (interval 16 10000 14700) = false :=
  ⟨rfl, fun _ => rfl, by decide, by decide⟩

/-- `k` = 0 and `k` = 31, 1269 ticks and 1270 ticks. -/
theorem witness_BitPulseTestsEveryDataPulse :
    (strict 3 14500 0 0 0 0 .rising).decoder.step = BitVec.ofNat 7 (3 + 2 * 0) ∧
    (strict 65 14500 0 0 0 0 .rising).decoder.step = BitVec.ofNat 7 (3 + 2 * 31) ∧
    polarityPasses (strict 3 14500 0 0 0 0 .rising) .rising ∧
    polarityPasses (strict 65 14500 0 0 0 0 .rising) .rising ∧
    Cfg.defaults.BIT_PULSE.admits (interval 16 14500 15769) = true ∧
    Cfg.defaults.BIT_PULSE.admits (interval 16 14500 15770) = false :=
  ⟨rfl, rfl, fun _ => rfl, fun _ => rfl, by decide, by decide⟩

/-- The border steps of the four bytes, and the three classes. -/
theorem witness_BitGapDecidesEveryDataBit :
    [(0, 4), (7, 18), (8, 20), (15, 34), (16, 36), (23, 50), (24, 52), (31, 66)].all
      (fun p : Nat × StepReg => decide (p.2 = BitVec.ofNat 7 (4 + 2 * p.1))) = true ∧
    (∀ st, polarityPasses (strict st 1000 0 0 0 0 .falling) .falling) ∧
    gapClass .defaults (interval 16 1000 2269) = .zero ∧ gapClass .defaults (interval 16 1000 4081) = .one ∧
    gapClass .defaults (interval 16 1000 4080) = .neither :=
  ⟨by decide, fun _ _ => rfl, by decide, by decide, by decide⟩

/-- Outside the window; inside it with good complements; inside it with a bad one. -/
theorem witness_StopPulseDeliversOrDiscardsTheFrame :
    (∀ ci, (strict 67 56804 0x00 0xFF 0x45 ci .rising).decoder.step = 67 ∧
      polarityPasses (strict 67 56804 0x00 0xFF 0x45 ci .rising) .rising) ∧
    Cfg.defaults.STOP_PULSE.admits (interval 16 56804 57774) = false ∧
    Cfg.defaults.STOP_PULSE.admits (interval 16 56804 57775) = true ∧
    (0x00 : Byte) = ~~~0xFF ∧ (0x45 : Byte) = ~~~0xBA ∧ (0x45 : Byte) ≠ ~~~0xBB :=
  ⟨fun _ => ⟨rfl, fun _ => rfl⟩, by decide, by decide, by decide, by decide, by decide⟩

/-- `step` 68, the first, and 127, the last. -/
theorem witness_BadStepAlwaysResyncs :
    (68 ≤ (strict 68 0 0 0 0 0 .rising).decoder.step.toNat ∧ polarityPasses (strict 68 0 0 0 0 0 .rising) .rising) ∧
    (68 ≤ (trust 127 0 0 0 0 0 .rising).decoder.step.toNat ∧ polarityPasses (trust 127 0 0 0 0 0 .rising) .falling) :=
  ⟨⟨by decide, fun _ => rfl⟩, ⟨by decide, fun h => absurd h (by decide)⟩⟩

theorem witness_WrongDirectionEdgeResyncsInStrictMode :
    isEdge (.edgeBitGap5 .rising 7) 7 .rising ∧ (strict 14 0 0 0 0 0 .falling).cfg.POLARITY_STRICT = true ∧
    Dir.rising ≠ (strict 14 0 0 0 0 0 .falling).decoder.expected_dir :=
  ⟨rfl, rfl, by decide⟩

/-- Both sides of the equivalence. -/
theorem witness_PolarityViolationExactlyWhenStrictAndWrong :
    isEdge (.edgeAwaitStart .rising 7) 7 .rising ∧
    (∃ t, exec (.edgeAwaitStart .rising 7) (strict 0 0 0 0 0 0 .falling) = .next t ∧
      decide (t.cause = some .polarityViolation) = true) ∧
    (∃ t, exec (.edgeAwaitStart .rising 7) (trust 0 0 0 0 0 0 .falling) = .next t ∧ decide (t.cause = none) = true) :=
  ⟨rfl, exists_next _ (by decide), exists_next _ (by decide)⟩

theorem witness_TrustModeNeverReadsDirection : (trust 9 0 0 0 0 0 .rising).cfg.POLARITY_STRICT = false := rfl

theorem witness_FilteredTrustModeEqualsStrictMode :
    isEdge (.edgeStartLow .rising 9000) 9000 .rising ∧ filtered (strict 1 0 0 0 0 0 .rising) .rising ∧
    ∃ t, exec (.edgeStartLow .rising 9000) (trust 1 0 0 0 0 0 .rising) = .next t ∧
      decide (t.resp = .pending) = true :=
  ⟨rfl, rfl, exists_next _ (by decide)⟩

theorem witness_ResyncRestoresInitAndKeepsTheMailbox :
    ∃ t, exec (.edgeStartLow .rising 1) (full (strict 1 0 0 0 0 0 .rising) 0x10 0x20) = .next t ∧
      decide (t.resp = .resync) = true :=
  exists_next _ (by decide)

/-- One event for each of the five values of the label. -/
theorem witness_CauseIsTheFirstFailingCheck :
    (∃ t, exec (edgeRow 127 .rising 1) (strict 127 0 0 0 0 0 .falling) = .next t ∧
      decide (t.cause = some .polarityViolation) = true) ∧
    (∃ t, exec (edgeRow 68 .rising 1) (strict 68 0 0 0 0 0 .rising) = .next t ∧
      decide (t.cause = some .unreachableStep) = true) ∧
    (∃ t, exec (edgeRow 66 .falling 1) (strict 66 0 0 0 0 0 .falling) = .next t ∧
      decide (t.cause = some .timingMismatch) = true) ∧
    (∃ t, exec (edgeRow 67 .rising 1120) (strict 67 0 0 0 0 0 .rising) = .next t ∧
      decide (t.cause = some .complementMismatch) = true) ∧
    (∃ t, exec (edgeRow 3 .rising 1120) (strict 3 0 0 0 0 0 .rising) = .next t ∧ decide (t.cause = none) = true) :=
  ⟨exists_next _ (by decide), exists_next _ (by decide), exists_next _ (by decide), exists_next _ (by decide),
    exists_next _ (by decide)⟩

/-- The first and the last `step` that accepts. -/
theorem witness_AcceptedEdgeAdvancesByOne :
    (∃ t, exec (edgeRow 0 .falling 7) (strict 0 0 0 0 0 0 .falling) = .next t ∧ decide (t.resp = .pending) = true) ∧
    (∃ t, exec (edgeRow 66 .falling 3380) (strict 66 0 0 0 0 0 .falling) = .next t ∧
      decide (t.resp = .pending) = true) :=
  ⟨exists_next _ (by decide), exists_next _ (by decide)⟩

/-- The four kinds of event, and the three responses of an EDGE. -/
theorem witness_ResponsesEachEventCanGive :
    (∃ t, exec .nop State.reset = .next t ∧ decide (t.resp = .ack) = true) ∧
    (∃ t, exec .reset State.reset = .next t ∧ decide (t.resp = .ack) = true) ∧
    (∃ t, exec .poll State.reset = .next t ∧ decide (t.resp = .pollNone) = true) ∧
    (∃ t, exec (.edgeAwaitStart .falling 0) State.reset = .next t ∧ decide (t.resp = .pending) = true) ∧
    (∃ t, exec (.edgeAwaitStart .rising 0) State.reset = .next t ∧ decide (t.resp = .resync) = true) :=
  ⟨exists_next _ (by decide), exists_next _ (by decide), exists_next _ (by decide), exists_next _ (by decide),
    exists_next _ (by decide)⟩

theorem witness_FrameReadyOnlyForAValidFrame :
    ∃ t, exec (.edgeStopPulse .rising 1120) (strict 67 0 0x00 0xFF 0x45 0xBA .rising) = .next t ∧
      decide (t.resp = .frameReady 0x00 0x45) = true :=
  exists_next _ (by decide)

/-- Two states that differ in the mailbox, what is pending and the last response. -/
theorem witness_EdgeDependsOnConfigAndDecoderOnly :
    isEdge (.edgeAwaitStart .falling 3) 3 .falling ∧
    (∃ t, exec (.edgeAwaitStart .falling 3) State.reset = .next t ∧ decide (t.resp = .pending) = true) ∧
    (∃ t, exec (.edgeAwaitStart .falling 3)
        { full State.reset 0x10 0x20 with pending := [5], resp := .resync, cause := some .timingMismatch } = .next t ∧
      decide (t.resp = .pending) = true) :=
  ⟨rfl, exists_next _ (by decide), exists_next _ (by decide)⟩

/-- An accepted edge and a rejected one. -/
theorem witness_OnlyTimeDifferencesMatter :
    (∃ t, exec (edgeRow 1 .rising 9000) (strict 1 0 0 0 0 0 .rising) = .next t ∧ decide (t.resp = .pending) = true) ∧
    (∃ t, exec (edgeRow 1 .rising 8800) (strict 1 0 0 0 0 0 .rising) = .next t ∧ decide (t.resp = .resync) = true) :=
  ⟨exists_next _ (by decide), exists_next _ (by decide)⟩

/-- No wrap, equal timestamps, the widest wrap. -/
theorem witness_IntervalIsWrappingSubtraction :
    (1000 ≤ 10000 ∧ 10000 < 2 ^ 16) ∧ (65535 ≤ 65535 ∧ 65535 < 2 ^ 16) ∧ (¬ 65535 ≤ 0 ∧ 65535 < 2 ^ 16) := by decide

/-- I10: an elapsed time longer than the counter. -/
theorem witness_IntervalIsElapsedTimeModuloTheCounter :
    edgeContract 16 [1000, 75536] [1000, 10000] ∧ interval 16 1000 10000 = 9000 :=
  ⟨⟨by decide, by decide⟩, by decide⟩

/-- `TOL` = 0, `TOL` = 1, `TOL` = `T`. -/
theorem witness_WindowIsOpenOnBothSides :
    (Window.mk 1120 0).TOL = 0 ∧ (Window.mk 1120 1).TOL = 1 ∧ (Window.mk 1120 1120).TOL ≤ (Window.mk 1120 1120).T ∧
    1 ≤ (Window.mk 1120 1).TOL := by decide

theorem witness_ClassifierScalesWithTheTickRate : 0 < 1 ∧ 0 < 16 := by decide

/-- A bit that is 0 and a bit that is 1, at both ends. -/
theorem witness_SetBitSetsOneBitAndClearsNone :
    setBit 0x00 0 = 0x01 ∧ setBit 0x7F 7 = 0xFF ∧ (0x81 : Byte).getLsbD 7 = true ∧ setBit 0x81 7 = 0x81 := by decide

theorem witness_GapStepSelectsItsFrameBit :
    (strict 4 0 0 0 0 0 .falling).decoder.step = BitVec.ofNat 7 (4 + 2 * 0) ∧
    (strict 66 0 0 0 0 0 .falling).decoder.step = BitVec.ofNat 7 (4 + 2 * 31) := by decide

/-- Every kind, both directions, the least and the greatest timestamp. -/
theorem witness_EventWordFieldsAreReadAsTabled :
    (0 < 4 ∧ 0 < 2 ∧ 0 < 2 ^ 16) ∧ (3 < 4 ∧ 1 < 2 ∧ 65535 < 2 ^ 16) := by decide

/-- The greatest event word and the next number. -/
theorem witness_EveryEventWordDecodes : 0x7FFFF < 2 ^ (16 + 3) ∧ 2 ^ (16 + 3) ≤ 0x80000 := by decide

theorem witness_DecodeOfEncodeIsTheInstruction :
    (Instr.edgeBitGap31 .rising 65535).wf 16 = true ∧ Instr.nop.wf 0 = true := by decide

theorem witness_EdgeWordIsEncodedAsItWasRead :
    decode 16 ⟨67, 0x3E244⟩ = .ok (.edgeStopPulse .rising 57924) ∧
    isEdge (.edgeStopPulse .rising 57924) 57924 .rising ∧ (67 : StepReg).toNat ≤ 67 :=
  ⟨by decide, rfl, by decide⟩

theorem witness_StepRunsTheDecodedEvent :
    (on State.reset (.edge 1000 .falling)).pending = 0x203E8 :: [] ∧
    decode State.reset.cfg.TS_WIDTH ⟨0, 0x203E8⟩ = .ok (.edgeAwaitStart .falling 1000) := by decide

theorem witness_IdleSlotIsANop : State.reset.pending = [] := rfl

theorem witness_TooWideWordIsRefused :
    ({ State.reset with pending := [0x80000] } : State).pending = 0x80000 :: [] ∧
    2 ^ (State.reset.cfg.TS_WIDTH + 3) ≤ 0x80000 := by decide

theorem witness_StepNeverStopsOnEventWords :
    ∀ ev ∈ (on State.reset .reset).pending, ev < 2 ^ (State.reset.cfg.TS_WIDTH + 3) := by decide

theorem witness_ConfigurationNeverChanges :
    ∃ t, step (on State.reset .reset) = .next t ∧ decide (t.resp = .ack) = true := exists_next _ (by decide)

/-- NOP, POLL and RESET in the middle of a frame; an EDGE that advances, one that is a Resync, one that ends a frame. -/
theorem witness_StepRegisterMovesInThreeWays :
    (∃ t, step (on (strict 66 0 0 0 0 0 .falling) .nop) = .next t ∧ decide (t.decoder.step = 66) = true) ∧
    (∃ t, step (on (strict 66 0 0 0 0 0 .falling) .poll) = .next t ∧ decide (t.decoder.step = 66) = true) ∧
    (∃ t, step (on (strict 66 0 0 0 0 0 .falling) .reset) = .next t ∧ decide (t.decoder.step = 0) = true) ∧
    (∃ t, step (on (strict 66 0 0 0 0 0 .falling) (.edge 1120 .falling)) = .next t ∧
      decide (t.decoder.step = 67) = true) ∧
    (∃ t, step (on (strict 66 0 0 0 0 0 .falling) (.edge 0 .falling)) = .next t ∧ decide (t.resp = .resync) = true) ∧
    (∃ t, step (on (strict 67 0 0 0xFF 0 0xFF .rising) (.edge 1120 .rising)) = .next t ∧
      decide (t.resp = .frameReady 0 0) = true) :=
  ⟨exists_next _ (by decide), exists_next _ (by decide), exists_next _ (by decide), exists_next _ (by decide),
    exists_next _ (by decide), exists_next _ (by decide)⟩

/-- The three writers. -/
theorem witness_MailboxHasThreeWriters :
    (∃ t, exec (.edgeStopPulse .rising 1120) (strict 67 0 0x00 0xFF 0x45 0xBA .rising) = .next t ∧
      decide (t.mailbox = ⟨true, 0x00, 0x45⟩) = true) ∧
    (∃ t, exec .poll (full State.reset 0x10 0x20) = .next t ∧ decide (t.mailbox = ⟨false, 0x10, 0x20⟩) = true) ∧
    (∃ t, exec .reset (full State.reset 0x10 0x20) = .next t ∧ decide (t.mailbox = .EMPTY) = true) :=
  ⟨exists_next _ (by decide), exists_next _ (by decide), exists_next _ (by decide)⟩

/-- A Pending response and a Resync. -/
theorem witness_LevelOutputsShowTheStateAfterTheEvent :
    (∃ t, step (on State.reset (.edge 1 .falling)) = .next t ∧ decide (t.resp = .pending) = true) ∧
    (∃ t, step (on State.reset (.edge 1 .rising)) = .next t ∧ decide (t.resp = .resync) = true) :=
  ⟨exists_next _ (by decide), exists_next _ (by decide)⟩

/-- In the middle of a frame: `step` 6, one gap passed, its bit set. -/
theorem witness_EveryStepKeepsTheDecoderInvariant :
    DecoderInv (strict 6 1000 0x01 0 0 0 .falling).decoder ∧
    ∃ t, step (on (strict 6 1000 0x01 0 0 0 .falling) (.edge 4380 .falling)) = .next t ∧
      decide (t.decoder.address = 0x03) = true :=
  ⟨⟨by decide, by decide, by decide, by decide⟩, exists_next _ (by decide)⟩

theorem witness_EveryStepKeepsTheWidths :
    WidthInv (on State.reset (.edge 65535 .falling)) ∧
    ∃ t, step (on State.reset (.edge 65535 .falling)) = .next t ∧ decide (t.decoder.last_ts = 65535) = true :=
  ⟨⟨by decide, by decide⟩, exists_next _ (by decide)⟩

/-- Two NOP words, the second with all its ignored bits set, before a POLL. -/
theorem witness_NopsLeaveNoTrace :
    [0x00000, 0x1FFFF] ≠ ([] : List Nat) ∧ (∀ ev ∈ [0x00000, 0x1FFFF], ev < 2 ^ (State.reset.cfg.TS_WIDTH + 1)) ∧
    ({ State.reset with pending := [0x00000, 0x1FFFF, 0x40000] } : State).pending =
      [0x00000, 0x1FFFF] ++ [0x40000] := by decide

/-- A run of one event that answers PollNone answers no FrameReady. -/
theorem no_frame_of_pollNone {s : State} (h : nextHolds (fun t => decide (t.resp = .pollNone)) (run 1 s) = true) :
    ∀ k u a c, k < 1 → run (k + 1) s = .next u → u.resp ≠ .frameReady a c := by
  intro k u a c hk hu
  obtain rfl : k = 0 := by omega
  obtain ⟨t, ht, hr⟩ := exists_next (o := run 1 s) (fun t => decide (t.resp = .pollNone)) h
  obtain rfl : t = u := Host.Outcome.next.inj (ht.symm.trans hu)
  rw [of_decide_eq_true hr]
  exact fun e => nomatch e

/-- One POLL of the empty mailbox; and a POLL right after one that took a frame. -/
theorem witness_NoFrameIsPolledTwice :
    (State.reset.mailbox.frame_ready = false ∧
      (∀ k u a c, k < 1 → run (k + 1) (on State.reset .poll) = .next u → u.resp ≠ .frameReady a c) ∧
      ∃ t, run 1 (on State.reset .poll) = .next t ∧ decide (t.resp = .pollNone) = true) ∧
    (∃ p, step ((full State.reset 0x10 0x20).withEvents [.poll, .poll]) = .next p ∧ p.resp = .pollSome 0x10 0x20 ∧
      (∀ k u a c, k < 1 → run (k + 1) p = .next u → u.resp ≠ .frameReady a c) ∧
      ∃ t, run 1 p = .next t ∧ decide (t.resp = .pollNone) = true) := by
  refine ⟨⟨rfl, no_frame_of_pollNone (by decide), exists_next _ (by decide)⟩, ?_⟩
  obtain ⟨p, hp, h⟩ := exists_next (o := step ((full State.reset 0x10 0x20).withEvents [.poll, .poll]))
    (fun p => decide (p.resp = .pollSome 0x10 0x20) &&
      nextHolds (fun t => decide (t.resp = .pollNone)) (run 1 p)) (by decide)
  obtain ⟨h₁, h₂⟩ := Bool.and_eq_true_iff.mp h
  exact ⟨p, hp, of_decide_eq_true h₁, no_frame_of_pollNone h₂, exists_next _ h₂⟩

/-- One start edge while a frame waits. -/
theorem witness_FrameWaitsForThePoll :
    let s := on (full State.reset 0x10 0x20) (.edge 5 .falling)
    (∀ k u, k < 1 → run k s = .next u → fetch u ≠ .ok .poll ∧ fetch u ≠ .ok .reset) ∧
    (∀ k u a c, k < 1 → run (k + 1) s = .next u → u.resp ≠ .frameReady a c) ∧
    ∃ t, run 1 s = .next t ∧ decide (t.resp = .pending) = true := by
  refine ⟨?_, ?_, exists_next _ (by decide)⟩
  · intro k u hk h
    obtain rfl : k = 0 := by omega
    obtain rfl := Host.Outcome.next.inj h
    decide
  · intro k u a c hk h
    obtain rfl : k = 0 := by omega
    obtain ⟨t, ht, hr⟩ := exists_next (o := run 1 (on (full State.reset 0x10 0x20) (.edge 5 .falling)))
      (fun t => decide (t.resp = .pending)) (by decide)
    obtain rfl : t = u := Host.Outcome.next.inj (ht.symm.trans h)
    rw [of_decide_eq_true hr]
    exact fun e => nomatch e

/-- A start edge between a NOP and a POLL; and 67 edges among 70 events, the greatest number that the hypothesis admits. -/
theorem witness_NoFrameBeforeSixtyEightEdges :
    (State.reset.decoder = .INIT ∧ edgesIn 3 (State.reset.withEvents [.nop, .edge 5 .falling, .poll]) = 1 ∧
      ∃ t, run 3 (State.reset.withEvents [.nop, .edge 5 .falling, .poll]) = .next t ∧
        decide (t.resp = .pollNone) = true) ∧
    edgesIn 70 (State.reset.withEvents ([.nop, .poll, .reset] ++ List.replicate 67 (.edge 5 .rising))) = 67 ∧
    67 < 68 :=
  ⟨⟨rfl, by decide, exists_next _ (by decide)⟩, by decide, by decide⟩

/-- The gaps of the frame `f`, nominal. -/
def gapsOf (f : BitVec 32) (k : Nat) : Nat := if f.getLsbD k then 3380 else 1120

/-- Nominal intervals spell any 32 bits, complementary bytes (0xBA45FF00) or not (0xBB45FF00). -/
theorem witness_FrameInsideTheWindowsIsDecoded (f : BitVec 32) :
    (∀ n ∈ frameIntervals 9000 4500 (fun _ => 1120) (gapsOf f) 1120, n < 2 ^ 16) ∧
    (∀ k, k < 32 → gapClass .defaults (gapsOf f k) = if f.getLsbD k then .one else .zero) ∧
    Cfg.defaults.START_LOW.admits 9000 = true ∧ Cfg.defaults.START_HIGH.admits 4500 = true ∧
    Cfg.defaults.BIT_PULSE.admits 1120 = true ∧ Cfg.defaults.STOP_PULSE.admits 1120 = true ∧
    (∃ s : State, s.cfg = .defaults ∧ s.decoder = .INIT ∧
      s.pending = (Trace.edges 16 1000 (frameIntervals 9000 4500 (fun _ => 1120) (gapsOf f) 1120)).map
        (encodeEvent 16) ++ []) := by
  refine ⟨?_, ?_, by decide, by decide, by decide, by decide, { State.reset with pending := _ }, rfl, rfl, rfl⟩
  · intro n hn
    simp only [frameIntervals, gapsOf, List.mem_append, List.mem_cons, List.not_mem_nil, or_false,
      List.mem_flatMap] at hn
    rcases hn with ((rfl | rfl) | ⟨k, _, rfl | rfl⟩) | rfl
    · omega
    · omega
    · omega
    · split_ifs <;> omega
    · omega
  · intro k _
    unfold gapsOf
    cases f.getLsbD k <;> decide

/-- The bytes of the two frames named above. -/
theorem witness_FrameInsideTheWindowsIsDecoded_clauses :
    ((0xBA45FF00 : BitVec 32).extractLsb' 0 8 = ~~~((0xBA45FF00 : BitVec 32).extractLsb' 8 8) ∧
      (0xBA45FF00 : BitVec 32).extractLsb' 16 8 = ~~~((0xBA45FF00 : BitVec 32).extractLsb' 24 8)) ∧
    (0xBB45FF00 : BitVec 32).extractLsb' 16 8 ≠ ~~~((0xBB45FF00 : BitVec 32).extractLsb' 24 8) := by decide

/-- P1's frame and `cfg`. -/
theorem witness_NominalNecFrameGivesOneFrame :
    Cfg.defaults.asDocDescribes = true ∧ (∀ w ∈ Cfg.defaults.windows, 1 ≤ w.TOL) ∧
    1000 < 2 ^ Cfg.defaults.TS_WIDTH ∧
    ∃ s : State, s.cfg = .defaults ∧ s.decoder = .INIT ∧
      s.pending = (Trace.necframe s.cfg 1000 0x00 0x45).map (encodeEvent s.cfg.TS_WIDTH) ++ [] :=
  ⟨by decide, by decide, by decide,
    { State.reset with pending := (Trace.necframe .defaults 1000 0x00 0x45).map (encodeEvent 16) ++ [] }, rfl, rfl, rfl⟩

/-- One pair of 1120 ticks in strict mode, and in trust mode with the directions exchanged. -/
theorem witness_FailedStartsLeaveInitAndMailbox :
    (∀ p ∈ [(100, 1220)], p.1 < 2 ^ 16 ∧ p.2 < 2 ^ 16 ∧
      Cfg.defaults.START_LOW.admits (interval 16 p.1 p.2) = false) ∧
    (State.reset.cfg.POLARITY_STRICT = true → Dir.falling = .falling ∧ Dir.rising = .rising) ∧
    ((trust 0 0 0 0 0 0 .falling).cfg.POLARITY_STRICT = true → Dir.rising = .falling ∧ Dir.falling = .rising) ∧
    (State.reset.withEvents [.edge 100 .falling, .edge 1220 .rising]).pending =
      ([(100, 1220)].flatMap fun p => [Event.edge p.1 .falling, Event.edge p.2 .rising]).map (encodeEvent 16) ++ [] :=
  ⟨by decide, fun _ => ⟨rfl, rfl⟩, fun h => absurd h (by decide), by decide⟩

end Sys2Proof.Tests
end

section
/-! PROOFS, 00_scope.md. No event writes `cfg` (spec/00_scope.md R6): no end of an EDGE does, so no instruction does, so
no step does. -/

namespace Sys2Proof.Machine

/-- However the body of an EDGE ends, `cfg` is kept. -/
theorem EdgeEnds.cfg_eq {ts : Nat} {s t : State} {i : Instr} (h : EdgeEnds ts s i t) : t.cfg = s.cfg := by
  cases h with
  | resync _ c _ => exact raiseResync_cfg c s
  | accept _ => exact accept_cfg ts s
  | oneGap _ _ => exact accept_cfg ts _
  | frame _ _ _ => exact emitFrame_cfg s

/-- No instruction writes `cfg`. -/
theorem exec_keeps_cfg {i : Instr} {s t : State} (h : exec i s = .next t) : t.cfg = s.cfg := by
  rcases exec_cases h with ⟨_, rfl⟩ | ⟨_, _, rfl⟩ | ⟨_, _, rfl⟩ | ⟨_, rfl⟩ |
    ⟨_, _, _, ⟨_, _, rfl⟩ | ⟨_, hends⟩⟩
  · -- NOP
    exact respond_cfg _ s
  · -- POLL of a waiting frame
    exact respond_cfg _ _
  · -- POLL of an empty mailbox
    exact respond_cfg _ s
  · -- RESET
    exact respond_cfg _ _
  · -- EDGE in the wrong direction
    exact raiseResync_cfg _ s
  · -- EDGE that passes the polarity check
    exact hends.cfg_eq

/-- Settles O45: a step runs one instruction on the state without its word, and neither of the two writes `cfg`. -/
theorem configurationNeverChanges : Obligations.ConfigurationNeverChanges := by
  intro s t h
  obtain ⟨i, -, hexec⟩ := step_cases h
  calc t.cfg = s.consumed.cfg := exec_keeps_cfg hexec
    _ = s.cfg := State.consumed_cfg s

end Sys2Proof.Machine
end

section
/-! PROOFS, 10_state.md. What a step does to the fields of the state. `StepEnds` says once, by the fetched instruction, in
which state a step can end, an EDGE with the `step` values at which each of its ends occurs; the frame lemmas and the
invariants (spec/10_state.md R25, R32, R41) are case analyses of it. -/

namespace Sys2Proof

/-! ### The accumulators as bits of the frame view -/

namespace DecoderState

theorem getLsbD_frame_address (d : DecoderState) (j : Nat) (hj : j < 8) :
    d.frame.getLsbD j = d.address.getLsbD j := by
  rw [getLsbD_frame d j (by omega), if_pos hj]

theorem getLsbD_frame_address_inverse (d : DecoderState) (j : Nat) (hj : j < 8) :
    d.frame.getLsbD (8 + j) = d.address_inverse.getLsbD j := by
  rw [getLsbD_frame d _ (by omega), if_neg (by omega), if_pos (by omega), Nat.add_sub_cancel_left]

theorem getLsbD_frame_command (d : DecoderState) (j : Nat) (hj : j < 8) :
    d.frame.getLsbD (16 + j) = d.command.getLsbD j := by
  rw [getLsbD_frame d _ (by omega), if_neg (by omega), if_neg (by omega), if_pos (by omega), Nat.add_sub_cancel_left]

theorem getLsbD_frame_command_inverse (d : DecoderState) (j : Nat) (hj : j < 8) :
    d.frame.getLsbD (24 + j) = d.command_inverse.getLsbD j := by
  rw [getLsbD_frame d _ (by omega), if_neg (by omega), if_neg (by omega), if_neg (by omega), Nat.add_sub_cancel_left]

end DecoderState

/-- The gap step `4 + 2k` decides frame bit `k`. -/
theorem frameBitIndex_gapStep {k : Nat} (hk : k < 32) : frameBitIndex (BitVec.ofNat 7 (4 + 2 * k)) = k := by
  unfold frameBitIndex
  rw [BitVec.toNat_ofNat, Nat.mod_eq_of_lt (by omega)]
  omega

namespace Machine

/-! ### What a step can do -/

/-- The ends of an EDGE whose row the stored `step` selects: those of `EdgeEnds`, with the `step` values at which each
occurs (spec/41_edge_operations.md R120). -/
inductive EdgeMove (ts : Nat) (s : State) : State → Prop where
  | resync (c : Cause) : EdgeMove ts s (raiseResync c s)
  | accept (hle : s.decoder.step.toNat ≤ 66) : EdgeMove ts s (Machine.accept ts s)
  | oneGap (hge : 4 ≤ s.decoder.step.toNat) (hle : s.decoder.step.toNat ≤ 66) (heven : s.decoder.step.toNat % 2 = 0) :
      EdgeMove ts s (Machine.accept ts
        { s with decoder := s.decoder.setFrameBit (frameBitIndex s.decoder.step) })
  | frame (hstop : s.decoder.step = 67) : EdgeMove ts s (emitFrame s)

/-- A window test in front of a move adds a Resync at most. -/
theorem EdgeMove.inWindow {ts : Nat} {s t : State} (w : Window) (h : EdgeMove ts s t) :
    EdgeMove ts s (inWindow w ts s t) := by
  rcases inWindow_cases w ts s t with ⟨-, he⟩ | ⟨-, he⟩ <;> rw [he]
  · exact h
  · exact .resync _

/-- The polarity check in front of a move adds a Resync at most. -/
theorem EdgeMove.edgeOp {ts : Nat} {s t : State} (dir : Dir) (h : EdgeMove ts s t) :
    EdgeMove ts s (edgeOp dir s t) := by
  rcases edgeOp_cases dir s t with ⟨-, -, he⟩ | ⟨-, he⟩ <;> rw [he]
  · exact .resync _
  · exact h

/-- The body that the stored `step` selects is a move. -/
theorem edgeMove_edgeBody (ts : Nat) (s : State) : EdgeMove ts s (edgeBody s.decoder.step ts s) := by
  unfold edgeBody
  split_ifs with h0 h1 h2 h66 hodd h67
  · -- AWAIT_START
    exact .accept (by omega)
  · -- START_LOW
    exact .inWindow _ (.accept (by omega))
  · -- START_HIGH
    exact .inWindow _ (.accept (by omega))
  · -- BIT_PULSE
    exact .inWindow _ (.accept h66)
  · -- BIT_GAP
    rcases decideBit_cases ts s with ⟨-, he⟩ | ⟨-, he⟩ | ⟨-, he⟩ <;> rw [he]
    · exact .accept h66
    · exact .oneGap (by omega) h66 (by omega)
    · exact .resync _
  · -- STOP_PULSE
    refine .inWindow _ ?_
    rcases validateFrame_cases s with ⟨-, he⟩ | ⟨-, he⟩ <;> rw [he]
    · exact .frame (BitVec.eq_of_toNat_eq h67)
    · exact .resync _
  · -- BAD_STEP
    exact .resync _

/-- The ends of a step from `s`, by the instruction it fetched. -/
inductive StepEnds (s : State) : Instr → State → Prop where
  | nop : StepEnds s .nop (respond .ack s.consumed)
  | pollSome : StepEnds s .poll (respond (.pollSome s.mailbox.frame_address s.mailbox.frame_command)
      { s.consumed with mailbox := s.mailbox.take })
  | pollNone : StepEnds s .poll (respond .pollNone s.consumed)
  | reset : StepEnds s .reset (respond .ack { s.consumed with decoder := .INIT, mailbox := .EMPTY })
  | edge {i : Instr} {ts : Nat} {dir : Dir} {t : State} (hi : isEdge i ts dir) (hts : ts < 2 ^ s.cfg.TS_WIDTH)
      (hmove : EdgeMove ts s.consumed t) : StepEnds s i t

/-- An EDGE fetched at the stored `step` ends in a move, and its timestamp has `TS_WIDTH` bits. -/
theorem edgeMove_of_fetch {s t : State} {i : Instr} {ts : Nat} {dir : Dir} (hf : fetch s = .ok i)
    (hi : isEdge i ts dir) (hexec : exec i s.consumed = .next t) :
    ts < 2 ^ s.cfg.TS_WIDTH ∧ EdgeMove ts s.consumed t := by
  obtain ⟨e, hdec, rfl⟩ := fetch_ok_iff.mp hf
  obtain rfl : e = .edge ts dir := (instrEvent_dispatch _ e).symm.trans hi
  obtain ⟨-, hwf, -⟩ := decodeEvent_inv hdec
  refine ⟨of_decide_eq_true hwf, ?_⟩
  obtain rfl := Host.Outcome.next.inj ((exec_edgeRow s.decoder.step dir ts s.consumed).symm.trans hexec)
  exact .edgeOp dir (edgeMove_edgeBody ts s.consumed)

/-- A step that answers fetched an instruction and ends as that instruction can. -/
theorem stepEnds_of_step {s t : State} (h : step s = .next t) : ∃ i, fetch s = .ok i ∧ StepEnds s i t := by
  obtain ⟨i, hf, hexec⟩ := step_cases h
  refine ⟨i, hf, ?_⟩
  rcases exec_cases hexec with ⟨rfl, rfl⟩ | ⟨rfl, -, rfl⟩ | ⟨rfl, -, rfl⟩ | ⟨rfl, rfl⟩ | ⟨ts, dir, hi, -⟩
  · exact .nop
  · exact .pollSome
  · exact .pollNone
  · exact .reset
  · obtain ⟨hts, hmove⟩ := edgeMove_of_fetch hf hi hexec
    exact .edge hi hts hmove

/-! ### The invariant of DecoderState -/

theorem decoderInv_INIT : DecoderInv .INIT where
  step_le := by decide
  direction := rfl
  undecided := by
    intro i _ _
    have hframe : DecoderState.INIT.frame = 0#32 := rfl
    rw [hframe, BitVec.getLsbD_zero]
  idle := fun _ => rfl

/-- The advance of `step` in an accepted edge does not wrap. -/
theorem toNat_step_add_one {x : StepReg} (h : x.toNat ≤ 66) : (x + 1).toNat = x.toNat + 1 := by
  rw [BitVec.toNat_add]
  exact Nat.mod_eq_of_lt (by show x.toNat + 1 < 128; omega)

/-- An advance by one with the direction flipped keeps the invariant when every bit still undecided is as it was. -/
theorem DecoderInv.advance {d d' : DecoderState} (hd : DecoderInv d) (hle : d.step.toNat ≤ 66)
    (hstep : d'.step = d.step + 1) (hdir : d'.expected_dir = d.expected_dir.flip)
    (hframe : ∀ i, gapsPassed d'.step ≤ i → i < 32 → d'.frame.getLsbD i = d.frame.getLsbD i) : DecoderInv d' := by
  have hnat : d'.step.toNat = d.step.toNat + 1 := by rw [hstep, toNat_step_add_one hle]
  refine ⟨by omega, ?_, ?_, ?_⟩
  · -- the parity of `step` and the direction change together
    rw [hdir, hd.direction, hnat]
    by_cases hp : d.step.toNat % 2 = 0
    · rw [if_pos hp, if_neg (by omega), Dir.flip]
    · rw [if_neg hp, if_pos (by omega), Dir.flip]
  · -- the bits undecided after the edge were undecided before it
    intro i hi h32
    rw [hframe i hi h32]
    refine hd.undecided i ?_ h32
    simp only [gapsPassed] at hi ⊢
    omega
  · -- `step` is not 0 after an advance
    intro h0
    rw [h0] at hnat
    exact absurd hnat (by simp)

/-- The bit that a gap step decides is no longer among the undecided ones at the next `step`. -/
theorem frameBitIndex_lt_gapsPassed {x : StepReg} (hge : 4 ≤ x.toNat) (hle : x.toNat ≤ 66) (heven : x.toNat % 2 = 0) :
    frameBitIndex x < gapsPassed (x + 1) := by
  unfold frameBitIndex gapsPassed
  rw [toNat_step_add_one hle]
  omega

/-- A move of an EDGE keeps the invariant. -/
theorem EdgeMove.keeps_decoderInv {ts : Nat} {s t : State} (h : EdgeMove ts s t) (hs : DecoderInv s.decoder) :
    DecoderInv t.decoder := by
  cases h with
  | resync c => exact decoderInv_INIT
  | accept hle => exact hs.advance hle rfl rfl fun _ _ _ => rfl
  | oneGap hge hle heven =>
    refine hs.advance hle (by simp) (by simp) fun i hi h32 => ?_
    have hlt := frameBitIndex_lt_gapsPassed hge hle heven
    simp only [accept_step, DecoderState.setFrameBit_step] at hi
    rw [accept_frame, DecoderState.getLsbD_frame_setFrameBit _ _ _ (by omega) h32,
      decide_eq_false (by omega), Bool.or_false]
  | frame hstop => exact decoderInv_INIT

/-- Settles O50: NOP and POLL leave DecoderState alone, RESET makes it `INIT`, and a move of an EDGE keeps the
invariant. -/
theorem everyStepKeepsTheDecoderInvariant : Obligations.EveryStepKeepsTheDecoderInvariant := by
  intro s t hs h
  obtain ⟨i, -, hends⟩ := stepEnds_of_step h
  cases hends with
  | nop => exact hs
  | pollSome => exact hs
  | pollNone => exact hs
  | reset => exact decoderInv_INIT
  | edge hi hts hmove => exact hmove.keeps_decoderInv hs

/-- Settles O49: DecoderState is `INIT` at reset. -/
theorem decoderInvariantHoldsAtReset : Obligations.DecoderInvariantHoldsAtReset := decoderInv_INIT

/-! ### The bit a gap step writes -/

/-- Settles O33: setting a frame bit sets that bit of the frame view alone, and each accumulator is eight bits of it. -/
theorem gapStepSelectsItsFrameBit : Obligations.GapStepSelectsItsFrameBit := by
  intro d k hk hstep e
  have hindex : frameBitIndex d.step = k := by rw [hstep, frameBitIndex_gapStep hk]
  have hbit : ∀ j, j < 32 → e.frame.getLsbD j = (d.frame.getLsbD j || decide (k = j)) := by
    intro j hj
    rw [← hindex]
    exact d.getLsbD_frame_setFrameBit _ j (by omega) hj
  refine ⟨hindex, fun j hj => ?_, fun j hj => ?_, fun j hj => ?_, fun j hj => ?_,
    d.setFrameBit_step _, d.setFrameBit_last_ts _, d.setFrameBit_expected_dir _⟩
  · rw [← e.getLsbD_frame_address j hj, ← d.getLsbD_frame_address j hj, hbit _ (by omega)]
  · rw [← e.getLsbD_frame_address_inverse j hj, ← d.getLsbD_frame_address_inverse j hj, hbit _ (by omega)]
  · rw [← e.getLsbD_frame_command j hj, ← d.getLsbD_frame_command j hj, hbit _ (by omega)]
  · rw [← e.getLsbD_frame_command_inverse j hj, ← d.getLsbD_frame_command_inverse j hj, hbit _ (by omega)]

/-! ### How `step`, the mailbox and the level outputs move -/

/-- What a move of an EDGE does to `step`, with the response that tells which move it was. -/
theorem EdgeMove.step_moves {ts : Nat} {s t : State} (h : EdgeMove ts s t) :
    (t.resp = .pending ∧ s.decoder.step.toNat ≤ 66 ∧ t.decoder.step.toNat = s.decoder.step.toNat + 1) ∨
    (t.resp = .resync ∧ t.decoder.step = 0) ∨
    (s.decoder.step = 67 ∧ t.decoder.step = 0 ∧ ∃ a c, t.resp = .frameReady a c) := by
  cases h with
  | resync c => exact .inr (.inl ⟨rfl, rfl⟩)
  | accept hle => exact .inl ⟨rfl, hle, toNat_step_add_one hle⟩
  | oneGap hge hle heven =>
    refine .inl ⟨rfl, hle, ?_⟩
    rw [accept_step, DecoderState.setFrameBit_step, toNat_step_add_one hle]
  | frame hstop => exact .inr (.inr ⟨hstop, rfl, _, _, rfl⟩)

/-- Settles O46: by the ends of a step; each event kind answers to one of the three clauses. -/
theorem stepRegisterMovesInThreeWays : Obligations.StepRegisterMovesInThreeWays := by
  intro s t h
  obtain ⟨i, hf, hends⟩ := stepEnds_of_step h
  refine ⟨i, hf, ?_⟩
  cases hends with
  | nop => exact ⟨fun _ => rfl, nofun, nofun⟩
  | pollSome => exact ⟨fun _ => rfl, nofun, nofun⟩
  | pollNone => exact ⟨fun _ => rfl, nofun, nofun⟩
  | reset => exact ⟨nofun, fun _ => rfl, nofun⟩
  | edge hi hts hmove =>
    refine ⟨?_, ?_, fun _ _ _ => hmove.step_moves⟩
    · rintro (rfl | rfl) <;> cases hi
    · rintro rfl; cases hi

/-- An end of an EDGE leaves the mailbox as it was, but for the frame that STOP_PULSE puts there. -/
theorem EdgeEnds.mailbox_cases {ts : Nat} {s t : State} {i : Instr} (h : EdgeEnds ts s i t) :
    t.mailbox = s.mailbox ∨
    ∃ dir, i = .edgeStopPulse dir ts ∧ t.resp = .frameReady s.decoder.address s.decoder.command ∧
      t.mailbox = s.mailbox.put s.decoder.address s.decoder.command := by
  cases h with
  | resync _ c _ => exact .inl (raiseResync_mailbox c s)
  | accept _ => exact .inl (accept_mailbox ts s)
  | oneGap _ _ => exact .inl (accept_mailbox ts _)
  | frame dir _ _ => exact .inr ⟨dir, rfl, emitFrame_resp s, emitFrame_mailbox s⟩

/-- Settles O47: by the cases of `exec`. -/
theorem mailboxHasThreeWriters : Obligations.MailboxHasThreeWriters := by
  intro i s t h
  rcases exec_cases h with ⟨-, rfl⟩ | ⟨rfl, hready, rfl⟩ | ⟨-, -, rfl⟩ | ⟨rfl, rfl⟩ |
    ⟨ts, _, -, ⟨-, -, rfl⟩ | ⟨-, hends⟩⟩
  · -- NOP
    exact .inl (respond_mailbox _ s)
  · -- POLL of a waiting frame
    exact .inr (.inr (.inl ⟨rfl, hready, rfl⟩))
  · -- POLL of an empty mailbox
    exact .inl (respond_mailbox _ s)
  · -- RESET
    exact .inr (.inr (.inr ⟨rfl, rfl⟩))
  · -- EDGE in the wrong direction
    exact .inl (raiseResync_mailbox _ s)
  · -- EDGE that passes the polarity check
    rcases hends.mailbox_cases with hkept | ⟨dir, hi, hresp, hput⟩
    · exact .inl hkept
    · exact .inr (.inl ⟨dir, ts, hi, hresp, hput⟩)

/-- What a move of an EDGE does to `expected_dir`: a flip on Pending, FALLING on Resync. -/
theorem EdgeMove.expected_dir_moves {ts : Nat} {s t : State} (h : EdgeMove ts s t) :
    (t.resp = .pending → t.decoder.expected_dir = s.decoder.expected_dir.flip) ∧
    (t.resp = .resync → t.decoder.expected_dir = .falling) := by
  cases h with
  | resync c => exact ⟨nofun, fun _ => rfl⟩
  | accept hle => exact ⟨fun _ => rfl, nofun⟩
  | oneGap hge hle heven => exact ⟨fun _ => by simp, nofun⟩
  | frame hstop => exact ⟨nofun, nofun⟩

/-- Settles O48: only an EDGE answers Pending or Resync, and its move sets `expected_dir` as stated. -/
theorem levelOutputsShowTheStateAfterTheEvent : Obligations.LevelOutputsShowTheStateAfterTheEvent := by
  intro s t h
  obtain ⟨i, -, hends⟩ := stepEnds_of_step h
  refine ⟨rfl, ?_⟩
  cases hends with
  | nop => exact ⟨nofun, nofun⟩
  | pollSome => exact ⟨nofun, nofun⟩
  | pollNone => exact ⟨nofun, nofun⟩
  | reset => exact ⟨nofun, nofun⟩
  | edge hi hts hmove => exact hmove.expected_dir_moves

/-! ### The widths -/

/-- A move of an EDGE takes no further word from the port. -/
theorem EdgeMove.pending_eq {ts : Nat} {s t : State} (h : EdgeMove ts s t) : t.pending = s.pending := by
  cases h <;> rfl

/-- A step takes the first pending word and no other. -/
theorem StepEnds.pending_eq {s t : State} {i : Instr} (h : StepEnds s i t) : t.pending = s.pending.tail := by
  cases h with
  | edge hi hts hmove => exact hmove.pending_eq
  | _ => rfl

/-- After a move of an EDGE the stored timestamp is 0 or the edge's own. -/
theorem EdgeMove.last_ts_eq {ts : Nat} {s t : State} (h : EdgeMove ts s t) :
    t.decoder.last_ts = 0 ∨ t.decoder.last_ts = ts := by
  cases h with
  | resync c => exact .inl rfl
  | accept hle => exact .inr rfl
  | oneGap hge hle heven => exact .inr rfl
  | frame hstop => exact .inl rfl

/-- A step keeps the stored timestamp within `TS_WIDTH` bits. -/
theorem StepEnds.last_ts_lt {s t : State} {i : Instr} (h : StepEnds s i t)
    (hs : s.decoder.last_ts < 2 ^ s.cfg.TS_WIDTH) : t.decoder.last_ts < 2 ^ s.cfg.TS_WIDTH := by
  have hzero : 0 < 2 ^ s.cfg.TS_WIDTH := by positivity
  cases h with
  | nop => exact hs
  | pollSome => exact hs
  | pollNone => exact hs
  | reset => exact hzero
  | edge hi hts hmove =>
    rcases hmove.last_ts_eq with he | he <;> rw [he]
    · exact hzero
    · exact hts

/-- Settles O52: `cfg` is kept, the stored timestamp is 0, the old one or the edge's, and the pending words are the old
ones but the first. -/
theorem everyStepKeepsTheWidths : Obligations.EveryStepKeepsTheWidths := by
  intro s t hs h
  obtain ⟨i, -, hends⟩ := stepEnds_of_step h
  have hcfg : t.cfg = s.cfg := configurationNeverChanges s t h
  refine ⟨hcfg ▸ hends.last_ts_lt hs.last_ts_fits, fun ev hev => ?_⟩
  rw [hends.pending_eq] at hev
  rw [hcfg]
  exact hs.pending_fits ev (List.mem_of_mem_tail hev)

/-- Settles O51: the stored timestamp is 0 and nothing is pending. -/
theorem widthsHoldAtReset : Obligations.WidthsHoldAtReset where
  last_ts_fits := Nat.two_pow_pos _
  pending_fits := nofun

end Machine

end Sys2Proof
end

section
/-! PROOFS, 20_memory.md. What an event reads and what it leaves (spec/20_memory.md R57, R58): the result of an
EDGE is read from `cfg` and DecoderState alone, and the mailbox changes only by a frame, a POLL or a RESET. The first is
one congruence lemma per shared operation; the second is a step lemma carried along a run. -/

namespace Sys2Proof.Machine

/-! ### An EDGE reads `cfg` and DecoderState alone -/

/-- An EDGE reads the same in both states. -/
structure SameInput (s₁ s₂ : State) : Prop where
  cfg     : s₁.cfg = s₂.cfg
  decoder : s₁.decoder = s₂.decoder

/-- An EDGE shows the same in both states: the response and the DecoderState after it. -/
structure SameResult (t₁ t₂ : State) : Prop where
  resp    : t₁.resp = t₂.resp
  decoder : t₁.decoder = t₂.decoder

theorem SameInput.intervalAt_eq {s₁ s₂ : State} (h : SameInput s₁ s₂) (ts : Nat) :
    intervalAt s₁ ts = intervalAt s₂ ts := by
  unfold intervalAt
  rw [h.cfg, h.decoder]

theorem sameResult_raiseResync (c : Cause) (s₁ s₂ : State) :
    SameResult (raiseResync c s₁) (raiseResync c s₂) :=
  ⟨rfl, rfl⟩

theorem sameResult_accept {s₁ s₂ : State} (ts : Nat) (h : s₁.decoder = s₂.decoder) :
    SameResult (accept ts s₁) (accept ts s₂) :=
  ⟨rfl, by simp only [accept, respond_decoder, h]⟩

theorem sameResult_emitFrame {s₁ s₂ : State} (h : s₁.decoder = s₂.decoder) :
    SameResult (emitFrame s₁) (emitFrame s₂) :=
  ⟨by rw [emitFrame_resp, emitFrame_resp, h], rfl⟩

theorem SameInput.edgeOp {s₁ s₂ b₁ b₂ : State} (h : SameInput s₁ s₂) (dir : Dir) (hbody : SameResult b₁ b₂) :
    SameResult (edgeOp dir s₁ b₁) (edgeOp dir s₂ b₂) := by
  unfold Machine.edgeOp
  rw [h.cfg, h.decoder]
  split_ifs
  · exact sameResult_raiseResync _ s₁ s₂
  · exact hbody

theorem SameInput.inWindow {s₁ s₂ b₁ b₂ : State} (h : SameInput s₁ s₂) (w : Window) (ts : Nat)
    (hmatch : SameResult b₁ b₂) : SameResult (inWindow w ts s₁ b₁) (inWindow w ts s₂ b₂) := by
  unfold Machine.inWindow
  rw [h.intervalAt_eq]
  split_ifs
  · exact hmatch
  · exact sameResult_raiseResync _ s₁ s₂

theorem SameInput.decideBit {s₁ s₂ : State} (h : SameInput s₁ s₂) (ts : Nat) :
    SameResult (decideBit ts s₁) (decideBit ts s₂) := by
  unfold Machine.decideBit
  rw [h.cfg, h.intervalAt_eq]
  cases gapClass s₂.cfg (intervalAt s₂ ts) with
  | zero => exact sameResult_accept ts h.decoder
  | one => exact sameResult_accept ts (by rw [h.decoder])
  | neither => exact sameResult_raiseResync _ s₁ s₂

theorem SameInput.validateFrame {s₁ s₂ : State} (h : SameInput s₁ s₂) :
    SameResult (validateFrame s₁) (validateFrame s₂) := by
  unfold Machine.validateFrame
  rw [h.decoder]
  split_ifs
  · exact sameResult_emitFrame h.decoder
  · exact sameResult_raiseResync _ s₁ s₂

theorem SameInput.edgeBody {s₁ s₂ : State} (h : SameInput s₁ s₂) (step : StepReg) (ts : Nat) :
    SameResult (edgeBody step ts s₁) (edgeBody step ts s₂) := by
  have haccept : SameResult (accept ts s₁) (accept ts s₂) := sameResult_accept ts h.decoder
  unfold Machine.edgeBody
  rw [h.cfg]
  split_ifs
  · -- AWAIT_START
    exact haccept
  · -- START_LOW
    exact h.inWindow _ ts haccept
  · -- START_HIGH
    exact h.inWindow _ ts haccept
  · -- BIT_PULSE
    exact h.inWindow _ ts haccept
  · -- BIT_GAP
    exact h.decideBit ts
  · -- STOP_PULSE
    exact h.inWindow _ ts h.validateFrame
  · -- BAD_STEP
    exact sameResult_raiseResync _ s₁ s₂

/-- Settles O23: an EDGE is the polarity check in front of its row's body, and both read `cfg` and DecoderState alone. -/
theorem edgeDependsOnConfigAndDecoderOnly : Obligations.EdgeDependsOnConfigAndDecoderOnly := by
  intro i ts dir s₁ s₂ t₁ t₂ hi hcfg hdecoder h₁ h₂
  obtain ⟨step, hexec⟩ := exec_edge_eq hi
  obtain rfl := Host.Outcome.next.inj ((hexec s₁).symm.trans h₁)
  obtain rfl := Host.Outcome.next.inj ((hexec s₂).symm.trans h₂)
  have hinput : SameInput s₁ s₂ := ⟨hcfg, hdecoder⟩
  obtain ⟨hresp, hdec⟩ := hinput.edgeOp dir (hinput.edgeBody step ts)
  exact ⟨hresp, hdec⟩

/-! ### What one step does to the mailbox -/

/-- Without POLL, RESET and FrameReady a step keeps the mailbox. -/
theorem step_keeps_mailbox {s t : State} (h : step s = .next t) (hpoll : fetch s ≠ .ok .poll)
    (hreset : fetch s ≠ .ok .reset) (hframe : ∀ a c, t.resp ≠ .frameReady a c) : t.mailbox = s.mailbox := by
  obtain ⟨i, hf, hexec⟩ := step_cases h
  rcases mailboxHasThreeWriters i s.consumed t hexec with hkept | ⟨_, _, -, hresp, -⟩ | ⟨rfl, -, -⟩ | ⟨rfl, -⟩
  · exact hkept
  · exact absurd hresp (hframe _ _)
  · exact absurd hf hpoll
  · exact absurd hf hreset

/-- Without FrameReady a step keeps the mailbox empty. -/
theorem step_keeps_mailbox_empty {s t : State} (h : step s = .next t) (hs : s.mailbox.frame_ready = false)
    (hframe : ∀ a c, t.resp ≠ .frameReady a c) : t.mailbox.frame_ready = false := by
  obtain ⟨i, -, hexec⟩ := step_cases h
  rcases mailboxHasThreeWriters i s.consumed t hexec with hm | ⟨_, _, -, hresp, -⟩ | ⟨-, -, hm⟩ | ⟨-, hm⟩
  · rw [hm]; exact hs
  · exact absurd hresp (hframe _ _)
  · rw [hm]
  · rw [hm]

/-- No end of an EDGE answers PollSome. -/
theorem EdgeEnds.resp_ne_pollSome {ts : Nat} {s t : State} {i : Instr} (h : EdgeEnds ts s i t) (a c : Byte) :
    t.resp ≠ .pollSome a c := by
  cases h <;> nofun

/-- An event that answers PollSome found a frame in the mailbox and took it. -/
theorem mailbox_of_pollSome {s t : State} {a c : Byte} (h : step s = .next t) (hresp : t.resp = .pollSome a c) :
    s.mailbox.frame_ready = true ∧ t.mailbox = s.mailbox.take := by
  obtain ⟨i, -, hexec⟩ := step_cases h
  rcases exec_cases hexec with ⟨-, rfl⟩ | ⟨-, hready, rfl⟩ | ⟨-, -, rfl⟩ | ⟨-, rfl⟩ |
    ⟨_, _, -, ⟨-, -, rfl⟩ | ⟨-, hends⟩⟩
  · -- NOP
    cases hresp
  · -- POLL of a waiting frame
    exact ⟨hready, rfl⟩
  · -- POLL of an empty mailbox
    cases hresp
  · -- RESET
    cases hresp
  · -- EDGE in the wrong direction
    cases hresp
  · -- EDGE that passes the polarity check
    exact absurd hresp (hends.resp_ne_pollSome a c)

/-! ### The mailbox over a run -/

/-- What holds at the start of a run and is kept by each of its steps holds at its end. -/
theorem run_induction {motive : Nat → State → Prop} {n : Nat} {s t : State} (hstart : motive 0 s)
    (hstep : ∀ k u v, k < n → run k s = .next u → step u = .next v → run (k + 1) s = .next v →
      motive k u → motive (k + 1) v)
    (hrun : run n s = .next t) : motive n t := by
  induction n generalizing t with
  | zero => cases hrun; exact hstart
  | succ n ih =>
    obtain ⟨u, hu, hlast⟩ := run_succ_inv_last hrun
    have hbefore : motive n u := ih (fun k u v hk => hstep k u v (by omega)) hu
    exact hstep n u t (by omega) hu hlast hrun hbefore

/-- From an empty mailbox, a run without FrameReady keeps the mailbox empty and no event of it answers PollSome. -/
theorem run_without_frame_polls_none {n : Nat} {s t : State} (hs : s.mailbox.frame_ready = false)
    (hframe : ∀ k u a c, k < n → run (k + 1) s = .next u → u.resp ≠ .frameReady a c) (hrun : run n s = .next t) :
    t.mailbox.frame_ready = false ∧ (0 < n → ∀ a c, t.resp ≠ .pollSome a c) := by
  refine run_induction
    (motive := fun k u => u.mailbox.frame_ready = false ∧ (0 < k → ∀ a c, u.resp ≠ .pollSome a c))
    ⟨hs, fun h0 => absurd h0 (Nat.lt_irrefl 0)⟩ ?_ hrun
  intro k u v hk _ hstep hv hu
  obtain ⟨hempty, -⟩ := hu
  refine ⟨step_keeps_mailbox_empty hstep hempty fun a c => hframe k v a c hk hv, fun _ a c hresp => ?_⟩
  obtain ⟨hready, -⟩ := mailbox_of_pollSome hstep hresp
  exact absurd (hempty.symm.trans hready) Bool.false_ne_true

/-- Settles O54: both runs start from an empty mailbox, the second because a PollSome empties it. -/
theorem noFrameIsPolledTwice : Obligations.NoFrameIsPolledTwice := by
  refine ⟨fun n s t hs hframe hrun => run_without_frame_polls_none hs hframe hrun, ?_⟩
  intro n s p t a₀ c₀ hstep hresp hframe hrun
  obtain ⟨-, htaken⟩ := mailbox_of_pollSome hstep hresp
  have hempty : p.mailbox.frame_ready = false := by rw [htaken, Mailbox.take_frame_ready]
  exact run_without_frame_polls_none hempty hframe hrun

/-- Settles O55: by induction on the run; each of its steps keeps the mailbox. -/
theorem frameWaitsForThePoll : Obligations.FrameWaitsForThePoll := by
  intro n s t hfetch hframe hrun
  refine run_induction (motive := fun _ u => u.mailbox = s.mailbox) rfl ?_ hrun
  intro k u v hk hu hstep hv hkept
  obtain ⟨hpoll, hreset⟩ := hfetch k u hk hu
  calc v.mailbox = u.mailbox := step_keeps_mailbox hstep hpoll hreset fun a c => hframe k v a c hk hv
    _ = s.mailbox := hkept

/-! ### The step on a pending word -/

/-- Settles O41: the first pending word is the one on the port, and the rest is what is pending once it is consumed. -/
theorem stepRunsTheDecodedEvent : Obligations.StepRunsTheDecodedEvent := by
  intro s ev rest i hpending hdecode
  have hfetch : fetch s = .ok i := by
    unfold fetch State.evPort
    rw [hpending]
    exact hdecode
  have hconsumed : s.consumed = { s with pending := rest } := by
    unfold State.consumed
    rw [hpending, List.tail_cons]
  rw [step_of_fetch hfetch, hconsumed]

end Sys2Proof.Machine
end

section
/-! PROOFS, 30_encoding.md, the words. The encoder's row leads the dispatch back to the instruction, and up to `step` 67
the row of an EDGE is the dispatch key itself: decode and encode agree in both directions, and the map from keys to
operations is the opcode table's (spec/30_encoding.md R71, R73, R78). -/

namespace Sys2Proof

/-! ### The event word -/

/-- Settles O34: `dir` and `ts` together are the number below the kind field. -/
theorem eventWordFieldsAreReadAsTabled : Obligations.EventWordFieldsAreReadAsTabled := by
  intro W kind dirBit ts hkind hdir hts
  have hpow : 2 ^ (W + 1) = 2 * 2 ^ W := by ring
  have hoperands : dirBit * 2 ^ W + ts < 2 ^ (W + 1) := by
    have : dirBit * 2 ^ W ≤ 1 * 2 ^ W := Nat.mul_le_mul_right _ (by omega)
    omega
  have hmod : (dirBit * 2 ^ W + ts) % 2 ^ W = ts := by
    rw [Nat.mul_add_mod_self_right, Nat.mod_eq_of_lt hts]
  have hdiv : (dirBit * 2 ^ W + ts) / 2 ^ W % 2 = dirBit := by
    rw [Nat.add_comm, Nat.add_mul_div_right _ _ (by positivity), Nat.div_eq_of_lt hts, Nat.zero_add,
      Nat.mod_eq_of_lt hdir]
  rw [Nat.add_assoc, decodeEvent_of_kind W kind _ hoperands, hmod, hdiv]
  interval_cases kind <;> rfl

/-- Settles O35: a number of at most `W + 3` bits has a kind below 4, and every other number has a greater one. -/
theorem everyEventWordDecodes : Obligations.EveryEventWordDecodes := by
  intro W ev
  have hpow : 2 ^ (W + 3) = 4 * 2 ^ (W + 1) := by ring
  refine ⟨fun hlt => ?_, fun hge => ?_⟩
  · have hkind : ev / 2 ^ (W + 1) < 4 := by
      rw [Nat.div_lt_iff_lt_mul (by positivity), ← hpow]
      exact hlt
    have hok : ∃ e, decodeEvent W ev = .ok e := by
      unfold decodeEvent
      generalize ev / 2 ^ (W + 1) = kind at hkind
      interval_cases kind <;> exact ⟨_, rfl⟩
    obtain ⟨e, he⟩ := hok
    obtain ⟨-, hwf, -⟩ := decodeEvent_inv he
    exact ⟨e, he, hwf⟩
  · have hkind : 4 ≤ ev / 2 ^ (W + 1) := by
      rw [Nat.le_div_iff_mul_le (by positivity), ← hpow]
      exact hge
    unfold decodeEvent
    obtain ⟨k, hk⟩ := Nat.exists_eq_add_of_le' hkind
    rw [hk]
    rfl

/-! ### The words of an instruction -/

/-- The kind of an instruction's row is the kind of its event. -/
theorem kindBits_keyRow (i : Instr) : (keyRow i).kindBits = (instrEvent i).kind := by
  cases i <;> simp only [keyRow, instrEvent] <;> rfl

/-- An EDGE instruction's timestamp is that of its event. -/
theorem timestamp_of_isEdge {i : Instr} {ts : Nat} {dir : Dir} (hi : Machine.isEdge i ts dir) : i.timestamp = ts := by
  cases i <;> cases hi <;> rfl

/-- The event of a well-formed instruction is well formed. -/
theorem wf_instrEvent {W : Nat} {i : Instr} (h : i.wf W = true) : (instrEvent i).wf W = true := by
  cases he : instrEvent i with
  | edge ts dir => rw [Event.wf, ← timestamp_of_isEdge he]; exact h
  | nop => rfl
  | poll => rfl
  | reset => rfl

/-- The `step` and the event of an instruction's words dispatch to the instruction. -/
theorem dispatch_stepBits (i : Instr) : dispatch (keyRow i).stepBits (instrEvent i) = i := by
  cases he : instrEvent i with
  | edge ts dir => exact Machine.edgeRow_of_isEdge he
  | nop => cases i <;> cases he; rfl
  | poll => cases i <;> cases he; rfl
  | reset => cases i <;> cases he; rfl

/-- Settles O37: the event comes back from its word, and with the row's `step` it dispatches to the instruction. -/
theorem decodeOfEncodeIsTheInstruction : Obligations.DecodeOfEncodeIsTheInstruction := by
  intro W i hwf
  refine decode_ok_iff.mpr ⟨instrEvent i, ?_, (dispatch_stepBits i).symm⟩
  rw [encode_ev W i (kindBits_keyRow i)]
  exact decodeEvent_encode W _ (wf_instrEvent hwf)

/-! ### The rows of the EDGE operations -/

/-- The key of an EDGE is its `step` below the kind 1. -/
theorem toNat_dispatchKey_edge (step : StepReg) (ts : Nat) (dir : Dir) :
    (dispatchKey step (.edge ts dir)).toNat = 128 + step.toNat := by
  rw [dispatchKey, BitVec.toNat_append, ← Nat.shiftLeft_add_eq_or_of_lt step.isLt]
  rfl

/-- `step` can be read from the key. -/
theorem step_of_dispatchKey_eq {step step' : StepReg} {e : Event} (h : dispatchKey step e = dispatchKey step' e) :
    step = step' :=
  (BitVec.append_right_inj _).mp h

theorem keyRow_bitPulseRow {k : Nat} (hk : k < 32) (dir : Dir) (ts : Nat) :
    keyRow (bitPulseRow k dir ts) = ⟨BitVec.ofNat 9 (131 + 2 * k), 0x1ff#9⟩ := by
  interval_cases k <;> rfl

theorem keyRow_bitGapRow {k : Nat} (hk : k < 32) (dir : Dir) (ts : Nat) :
    keyRow (bitGapRow k dir ts) = ⟨BitVec.ofNat 9 (132 + 2 * k), 0x1ff#9⟩ := by
  interval_cases k <;> rfl

/-- Up to `step` 67 the row of an EDGE fixes every bit of the key. -/
theorem keyRow_edgeRow {step : StepReg} (hle : step.toNat ≤ 67) (dir : Dir) (ts : Nat) :
    keyRow (edgeRow step dir ts) = ⟨dispatchKey step (.edge ts dir), 0x1ff#9⟩ := by
  have hkey : dispatchKey step (.edge ts dir) = BitVec.ofNat 9 (128 + step.toNat) := by
    rw [← toNat_dispatchKey_edge step ts dir, BitVec.ofNat_toNat, BitVec.setWidth_eq]
  rw [hkey]
  unfold edgeRow
  split_ifs with h0 h1 h2 h66 hodd h67
  · -- AWAIT_START
    rw [h0]; rfl
  · -- START_LOW
    rw [h1]; rfl
  · -- START_HIGH
    rw [h2]; rfl
  · -- BIT_PULSE
    rw [keyRow_bitPulseRow (by omega), show 131 + 2 * ((step.toNat - 3) / 2) = 128 + step.toNat by omega]
  · -- BIT_GAP
    rw [keyRow_bitGapRow (by omega), show 132 + 2 * ((step.toNat - 4) / 2) = 128 + step.toNat by omega]
  · -- STOP_PULSE
    rw [h67]; rfl
  all_goals omega

/-- Up to `step` 67 the low bits of the row's pattern are the `step`. -/
theorem stepBits_edgeRow {step : StepReg} (hle : step.toNat ≤ 67) (dir : Dir) (ts : Nat) :
    (keyRow (edgeRow step dir ts)).stepBits = step := by
  rw [keyRow_edgeRow hle, KeyRow.stepBits, toNat_dispatchKey_edge]
  exact BitVec.eq_of_toNat_eq (by rw [BitVec.toNat_ofNat]; omega)

/-- Settles O38: the row's low bits are the `step`, and the event word is the canonical one of its event. -/
theorem edgeWordIsEncodedAsItWasRead : Obligations.EdgeWordIsEncodedAsItWasRead := by
  rintro W ⟨step, ev⟩ i ts dir hdecode hi hle
  obtain ⟨e, hev, rfl⟩ := decode_ok_iff.mp hdecode
  obtain rfl : e = .edge ts dir := (instrEvent_dispatch step e).symm.trans hi
  obtain ⟨-, -, hword⟩ := decodeEvent_inv hev
  have hstep : (encode W (edgeRow step dir ts)).step = step := stepBits_edgeRow hle dir ts
  have hcode : (encode W (edgeRow step dir ts)).ev = ev := by
    rw [encode_ev W _ (kindBits_keyRow _), instrEvent_edgeRow, ← hword rfl]
  calc encode W (edgeRow step dir ts)
      = ⟨(encode W (edgeRow step dir ts)).step, (encode W (edgeRow step dir ts)).ev⟩ := rfl
    _ = ⟨step, ev⟩ := by rw [hstep, hcode]

/-! ### The row that a key selects -/

/-- A row without free bits covers its pattern alone. -/
theorem covers_of_full_mask (p k : Key) : KeyRow.covers ⟨p, 0x1ff#9⟩ k = true ↔ k = p := by
  have hand : k &&& 0x1ff#9 = k := BitVec.and_allOnes
  rw [KeyRow.covers, hand, beq_iff_eq]

/-- A host event's row leaves all seven bits of `step` free. -/
theorem covers_hostRow (step : StepReg) :
    (keyRow .nop).covers (dispatchKey step .nop) = true ∧ (keyRow .poll).covers (dispatchKey step .poll) = true ∧
    (keyRow .reset).covers (dispatchKey step .reset) = true := by
  revert step; decide

/-- The four BAD_STEP rows cover the `step` values of their names (R74). -/
theorem covers_badStepRow (step : StepReg) (ts : Nat) (dir : Dir) :
    ((keyRow (.edgeBadStep68_71 dir ts)).covers (dispatchKey step (.edge ts dir)) = true ↔
      68 ≤ step.toNat ∧ step.toNat ≤ 71) ∧
    ((keyRow (.edgeBadStep72_79 dir ts)).covers (dispatchKey step (.edge ts dir)) = true ↔
      72 ≤ step.toNat ∧ step.toNat ≤ 79) ∧
    ((keyRow (.edgeBadStep80_95 dir ts)).covers (dispatchKey step (.edge ts dir)) = true ↔
      80 ≤ step.toNat ∧ step.toNat ≤ 95) ∧
    ((keyRow (.edgeBadStep96_127 dir ts)).covers (dispatchKey step (.edge ts dir)) = true ↔
      96 ≤ step.toNat) := by
  simp only [keyRow, dispatchKey, Event.kind]
  revert step; decide

/-- From `step` 68 on, the four BAD_STEP rows share the `step` values out. -/
theorem edgeRow_of_badStep {step : StepReg} (hge : 68 ≤ step.toNat) (dir : Dir) (ts : Nat) :
    edgeRow step dir ts =
      if step.toNat ≤ 71 then .edgeBadStep68_71 dir ts
      else if step.toNat ≤ 79 then .edgeBadStep72_79 dir ts
      else if step.toNat ≤ 95 then .edgeBadStep80_95 dir ts
      else .edgeBadStep96_127 dir ts := by
  unfold edgeRow
  rw [if_neg (by omega), if_neg (by omega), if_neg (by omega), if_neg (by omega), if_neg (by omega)]

/-- The row an EDGE dispatches to covers its key. -/
theorem covers_edgeRow (step : StepReg) (ts : Nat) (dir : Dir) :
    (keyRow (edgeRow step dir ts)).covers (dispatchKey step (.edge ts dir)) = true := by
  by_cases hle : step.toNat ≤ 67
  · rw [keyRow_edgeRow hle, covers_of_full_mask]
  · obtain ⟨h68, h72, h80, h96⟩ := covers_badStepRow step ts dir
    rw [edgeRow_of_badStep (by omega)]
    split_ifs
    · exact h68.mpr (by omega)
    · exact h72.mpr (by omega)
    · exact h80.mpr (by omega)
    · exact h96.mpr (by omega)

/-- An EDGE's row covers only keys that dispatch to it. -/
theorem edgeRow_eq_of_covers {n step : StepReg} {ts : Nat} {dir : Dir}
    (h : (keyRow (edgeRow n dir ts)).covers (dispatchKey step (.edge ts dir)) = true) :
    edgeRow n dir ts = edgeRow step dir ts := by
  by_cases hle : n.toNat ≤ 67
  · rw [keyRow_edgeRow hle, covers_of_full_mask] at h
    rw [step_of_dispatchKey_eq h]
  · obtain ⟨h68, h72, h80, h96⟩ := covers_badStepRow step ts dir
    rw [edgeRow_of_badStep (by omega)] at h ⊢
    split_ifs at h ⊢
    · obtain ⟨hge, h71⟩ := h68.mp h
      rw [edgeRow_of_badStep hge, if_pos h71]
    · obtain ⟨hge, h79⟩ := h72.mp h
      rw [edgeRow_of_badStep (by omega), if_neg (by omega), if_pos h79]
    · obtain ⟨hge, h95⟩ := h80.mp h
      rw [edgeRow_of_badStep (by omega), if_neg (by omega), if_neg (by omega), if_pos h95]
    · have hge := h96.mp h
      rw [edgeRow_of_badStep (by omega), if_neg (by omega), if_neg (by omega), if_neg (by omega)]

/-- The dispatched instruction's row covers the key. -/
theorem covers_dispatch (step : StepReg) (e : Event) :
    (keyRow (dispatch step e)).covers (dispatchKey step e) = true := by
  obtain ⟨hnop, hpoll, hreset⟩ := covers_hostRow step
  cases e with
  | nop => exact hnop
  | edge ts dir => exact covers_edgeRow step ts dir
  | poll => exact hpoll
  | reset => exact hreset

/-- An instruction whose row covers a key of its event is what that key dispatches to. -/
theorem eq_dispatch_of_covers {step : StepReg} {i : Instr}
    (h : (keyRow i).covers (dispatchKey step (instrEvent i)) = true) : i = dispatch step (instrEvent i) := by
  have hi := dispatch_stepBits i
  cases he : instrEvent i with
  | edge ts dir =>
    rw [he] at h hi
    simp only [dispatch] at hi ⊢
    rw [← hi] at h
    exact hi.symm.trans (edgeRow_eq_of_covers h)
  | nop => rw [← hi, he]; rfl
  | poll => rw [← hi, he]; rfl
  | reset => rw [← hi, he]; rfl

/-- Settles O36: the row of the dispatched instruction covers the key, and no row of another instruction does. -/
theorem eachKeySelectsExactlyOneRow : Obligations.EachKeySelectsExactlyOneRow := by
  intro step e i
  constructor
  · rintro ⟨rfl, hcovers⟩
    exact eq_dispatch_of_covers hcovers
  · rintro rfl
    exact ⟨instrEvent_dispatch step e, covers_dispatch step e⟩

/-! ### Written-out words -/

/-- Settles O39: the nine words, decoded. -/
theorem writtenOutWordsDecode : Obligations.WrittenOutWordsDecode := by
  unfold Obligations.WrittenOutWordsDecode
  decide

/-! ### The response word -/

/-- The three fields of a response word, read back. -/
theorem response_word_fields (r : Response) :
    r.word.extractLsb' 16 3 = r.rkind ∧ r.word.extractLsb' 8 8 = r.raddress ∧ r.word.extractLsb' 0 8 = r.rcommand := by
  unfold Response.word
  refine ⟨BitVec.extractLsb'_append_eq_left, ?_, ?_⟩
  · rw [BitVec.extractLsb'_append_eq_of_add_le (by norm_num)]
    exact BitVec.extractLsb'_append_eq_left
  · rw [BitVec.extractLsb'_append_eq_of_add_le (by norm_num)]
    exact BitVec.extractLsb'_append_eq_right

/-- Settles O40: the fields read back are those the word was put together from. -/
theorem responseWordFieldsAreAsTabled : Obligations.ResponseWordFieldsAreAsTabled := by
  intro r
  obtain ⟨hkind, haddress, hcommand⟩ := response_word_fields r
  rw [hkind, haddress, hcommand]
  cases r <;> exact ⟨rfl, rfl, rfl⟩

/-! ### What each kind of event answers -/

namespace Machine

/-- The end of an EDGE answers Pending, Resync or a FrameReady. -/
theorem EdgeEnds.resp_cases {ts : Nat} {s t : State} {i : Instr} (h : EdgeEnds ts s i t) :
    t.resp = .pending ∨ t.resp = .resync ∨ ∃ a c, t.resp = .frameReady a c := by
  cases h with
  | resync _ c _ => exact .inr (.inl (raiseResync_resp c s))
  | accept _ => exact .inl (accept_resp ts s)
  | oneGap _ _ => exact .inl (accept_resp ts _)
  | frame _ _ _ => exact .inr (.inr ⟨_, _, emitFrame_resp s⟩)

/-- Settles O21: by the cases of `exec`. -/
theorem responsesEachEventCanGive : Obligations.ResponsesEachEventCanGive := by
  intro i s t h
  rcases exec_cases h with ⟨rfl, rfl⟩ | ⟨rfl, -, rfl⟩ | ⟨rfl, -, rfl⟩ | ⟨rfl, rfl⟩ |
    ⟨ts, dir, hi, ⟨-, -, rfl⟩ | ⟨-, hends⟩⟩
  · -- NOP
    exact respond_resp _ s
  · -- POLL of a waiting frame
    exact .inr ⟨_, _, respond_resp _ _⟩
  · -- POLL of an empty mailbox
    exact .inl (respond_resp _ s)
  · -- RESET
    exact respond_resp _ _
  · -- EDGE in the wrong direction
    rw [hi]
    exact .inr (.inl (raiseResync_resp _ s))
  · -- EDGE that passes the polarity check
    rw [hi]
    exact hends.resp_cases

/-! ### A number that is no event word -/

/-- Settles O43: the number on the port does not decode, so nothing is fetched. -/
theorem tooWideWordIsRefused : Obligations.TooWideWordIsRefused := by
  intro s ev rest hpending hwide
  obtain ⟨-, herror⟩ := everyEventWordDecodes s.cfg.TS_WIDTH ev
  have hfetch : fetch s = .error .eventWordTooWide := by
    unfold fetch decode State.evPort
    rw [hpending, List.headD_cons, herror hwide]
  unfold step
  rw [hfetch]

end Machine

end Sys2Proof
end

section
/-! PROOFS, 30_encoding.md, the frames. 68 edges inside their windows deliver the frame that the gaps spell
(spec/30_encoding.md R77, spec/41_edge_operations.md R131, R133): `MidFrame` says where the decoder stands between two
edges of the frame, each edge but the last keeps it, and the last one finds all 32 bits decided. A nominal NECFRAME (R82)
is such a frame. -/

namespace Sys2Proof.Machine

/-! ### Intervals that fit their windows -/

/-- The interval that an edge at `step` `n` ends lies in its window, and a gap is of the class that its bit of `f`
names. -/
def IntervalFits (cfg : Cfg) (f : BitVec 32) (n d : Nat) : Prop :=
  if n = 1 then cfg.START_LOW.admits d = true
  else if n = 2 then cfg.START_HIGH.admits d = true
  else if n ≤ 66 then
    if n % 2 = 1 then cfg.BIT_PULSE.admits d = true
    else gapClass cfg d = if f.getLsbD ((n - 4) / 2) then .one else .zero
  else cfg.STOP_PULSE.admits d = true

/-- Successive intervals fit, the first of them at `step` `n`. -/
def IntervalsFit (cfg : Cfg) (f : BitVec 32) : Nat → List Nat → Prop
  | _, []      => True
  | n, d :: ds => IntervalFits cfg f n d ∧ IntervalsFit cfg f (n + 1) ds

theorem intervalsFit_append (cfg : Cfg) (f : BitVec 32) (n : Nat) (ds es : List Nat) :
    IntervalsFit cfg f n (ds ++ es) ↔ IntervalsFit cfg f n ds ∧ IntervalsFit cfg f (n + ds.length) es := by
  induction ds generalizing n with
  | nil => simp [IntervalsFit]
  | cons d ds ih =>
    rw [List.cons_append, IntervalsFit, IntervalsFit, ih, and_assoc, List.length_cons,
      show n + (ds.length + 1) = n + 1 + ds.length by omega]

/-- The pulse and the gap of bit `k` fit at the `step` values 3 + 2k and 4 + 2k. -/
theorem intervalsFit_bit {cfg : Cfg} {f : BitVec 32} {k pulse gap : Nat} (hk : k < 32)
    (hpulse : cfg.BIT_PULSE.admits pulse = true)
    (hgap : gapClass cfg gap = if f.getLsbD k then .one else .zero) :
    IntervalsFit cfg f (3 + 2 * k) [pulse, gap] := by
  refine ⟨?_, ?_, trivial⟩
  · unfold IntervalFits
    rw [if_neg (by omega), if_neg (by omega), if_pos (by omega), if_pos (by omega)]
    exact hpulse
  · unfold IntervalFits
    rw [if_neg (by omega), if_neg (by omega), if_pos (by omega), if_neg (by omega),
      show (3 + 2 * k + 1 - 4) / 2 = k by omega]
    exact hgap

theorem length_bits (pulse gap : Nat → Nat) (m : Nat) :
    ((List.range m).flatMap fun k => [pulse k, gap k]).length = 2 * m := by
  simp [List.length_flatMap, Nat.mul_comm]

/-- The pulses and gaps of the first `m` bits fit from `step` 3 on. -/
theorem intervalsFit_bits {cfg : Cfg} {f : BitVec 32} {pulse gap : Nat → Nat} {m : Nat} (hm : m ≤ 32)
    (hpulse : ∀ k, k < 32 → cfg.BIT_PULSE.admits (pulse k) = true)
    (hgap : ∀ k, k < 32 → gapClass cfg (gap k) = if f.getLsbD k then .one else .zero) :
    IntervalsFit cfg f 3 ((List.range m).flatMap fun k => [pulse k, gap k]) := by
  induction m with
  | zero => trivial
  | succ m ih =>
    rw [List.range_succ, List.flatMap_append, intervalsFit_append, length_bits, List.flatMap_singleton]
    exact ⟨ih (by omega), intervalsFit_bit (by omega) (hpulse m (by omega)) (hgap m (by omega))⟩

theorem length_frameIntervals (low high : Nat) (pulse gap : Nat → Nat) (stop : Nat) :
    (frameIntervals low high pulse gap stop).length = 67 := by
  simp only [frameIntervals, List.length_append, length_bits, List.length_cons, List.length_nil]

/-- The intervals of a frame fit from `step` 1 on (R77). -/
theorem intervalsFit_frameIntervals {cfg : Cfg} {f : BitVec 32} {low high stop : Nat} {pulse gap : Nat → Nat}
    (hlow : cfg.START_LOW.admits low = true) (hhigh : cfg.START_HIGH.admits high = true)
    (hpulse : ∀ k, k < 32 → cfg.BIT_PULSE.admits (pulse k) = true)
    (hgap : ∀ k, k < 32 → gapClass cfg (gap k) = if f.getLsbD k then .one else .zero)
    (hstop : cfg.STOP_PULSE.admits stop = true) :
    IntervalsFit cfg f 1 (frameIntervals low high pulse gap stop) := by
  have hstart : IntervalsFit cfg f 1 [low, high] := ⟨hlow, hhigh, trivial⟩
  have hend : IntervalsFit cfg f 67 [stop] := ⟨hstop, trivial⟩
  rw [frameIntervals, intervalsFit_append, intervalsFit_append, List.length_append, length_bits]
  exact ⟨⟨hstart, intervalsFit_bits (le_refl 32) hpulse hgap⟩, hend⟩

/-! ### The bits decided so far -/

/-- Before an edge at `step` `n` the accumulators hold the bits of `f` that the gaps passed have decided, and 0
elsewhere (R32 item 3). -/
def Decided (f : BitVec 32) (n : StepReg) (d : DecoderState) : Prop :=
  ∀ i, i < 32 → d.frame.getLsbD i = (f.getLsbD i && decide (i < gapsPassed n))

/-- Nothing is decided at a `step` that is no gap. -/
theorem Decided.of_no_gap {f : BitVec 32} {n : StepReg} {d : DecoderState} (h : Decided f n d) (hle : n.toNat ≤ 66)
    (hno : n.toNat ≤ 2 ∨ n.toNat % 2 = 1) : Decided f (n + 1) d := by
  have hsame : gapsPassed (n + 1) = gapsPassed n := by
    unfold gapsPassed
    rw [toNat_step_add_one hle]
    omega
  intro i hi
  rw [h i hi, hsame]

/-- A gap step decides the bit after those of the gaps passed. -/
theorem gapsPassed_of_gap {n : StepReg} (hge : 4 ≤ n.toNat) (hle : n.toNat ≤ 66) (heven : n.toNat % 2 = 0) :
    gapsPassed n = frameBitIndex n ∧ gapsPassed (n + 1) = frameBitIndex n + 1 ∧ frameBitIndex n < 32 := by
  unfold gapsPassed frameBitIndex
  rw [toNat_step_add_one hle]
  omega

/-- A gap decides its bit: as 0 where the accumulators stay as they are, as 1 where the bit is set. -/
theorem Decided.of_gap {f : BitVec 32} {n : StepReg} {d : DecoderState} (h : Decided f n d) (hge : 4 ≤ n.toNat)
    (hle : n.toNat ≤ 66) (heven : n.toNat % 2 = 0) :
    Decided f (n + 1) (if f.getLsbD (frameBitIndex n) then d.setFrameBit (frameBitIndex n) else d) := by
  obtain ⟨hbefore, hafter, hindex⟩ := gapsPassed_of_gap hge hle heven
  intro i hi
  have hi' := h i hi
  rw [hbefore] at hi'
  rw [hafter]
  by_cases hthis : frameBitIndex n = i
  · subst hthis
    cases hbit : f.getLsbD (frameBitIndex n) with
    | true => simp [DecoderState.getLsbD_frame_setFrameBit _ _ _ hindex hi]
    | false => simp [hi', hbit]
  · have hother : decide (i < frameBitIndex n + 1) = decide (i < frameBitIndex n) := decide_eq_decide.mpr (by omega)
    rw [hother, ← hi']
    split_ifs
    · rw [DecoderState.getLsbD_frame_setFrameBit _ _ _ hindex hi, decide_eq_false hthis, Bool.or_false]
    · rfl

/-- Before the stop pulse every bit is decided. -/
theorem Decided.frame_eq {f : BitVec 32} {d : DecoderState} (h : Decided f 67 d) : d.frame = f := by
  apply BitVec.eq_of_getLsbD_eq
  intro i hi
  have hlt : i < gapsPassed 67 := hi
  rw [h i hi, decide_eq_true hlt, Bool.and_true]

/-! ### One edge -/

/-- A step on an EDGE that passes the polarity check is the body of its row. -/
theorem step_of_edge {s : State} {ts : Nat} {dir : Dir} {rest : List Nat}
    (hpending : s.pending = encodeEvent s.cfg.TS_WIDTH (.edge ts dir) :: rest) (hts : ts < 2 ^ s.cfg.TS_WIDTH)
    (hdir : polarityPasses s dir) : step s = .next (edgeBody s.decoder.step ts s.consumed) := by
  have hwf : (Event.edge ts dir).wf s.cfg.TS_WIDTH = true := decide_eq_true hts
  rw [step_of_fetch (fetch_of_event hpending hwf)]
  show exec (edgeRow s.decoder.step dir ts) s.consumed = _
  have hdir' : polarityPasses s.consumed dir := hdir
  rw [exec_edgeRow, edgeOp_of_passes hdir']

theorem inWindow_of_admits {w : Window} {ts : Nat} {s : State} (h : w.admits (intervalAt s ts) = true)
    (onMatch : State) : inWindow w ts s onMatch = onMatch := by
  unfold inWindow
  rw [if_pos h]

/-- A gap of the class that its bit of `f` names is accepted, its bit set if it is a one. -/
theorem decideBit_of_fits {f : BitVec 32} {ts : Nat} {u : State}
    (h : gapClass u.cfg (intervalAt u ts) = if f.getLsbD (frameBitIndex u.decoder.step) then .one else .zero) :
    decideBit ts u = accept ts { u with
      decoder := if f.getLsbD (frameBitIndex u.decoder.step) then u.decoder.setFrameBit (frameBitIndex u.decoder.step)
                 else u.decoder } := by
  unfold decideBit
  rw [h]
  split_ifs <;> rfl

/-- An edge whose interval fits is accepted, and a gap decides its bit. -/
theorem edgeBody_of_fits {f : BitVec 32} {ts : Nat} {u : State} (hge : 1 ≤ u.decoder.step.toNat)
    (hle : u.decoder.step.toNat ≤ 66) (hfit : IntervalFits u.cfg f u.decoder.step.toNat (intervalAt u ts))
    (hdec : Decided f u.decoder.step u.decoder) :
    ∃ d, edgeBody u.decoder.step ts u = accept ts { u with decoder := d } ∧ d.step = u.decoder.step ∧
      d.expected_dir = u.decoder.expected_dir ∧ Decided f (u.decoder.step + 1) d := by
  unfold edgeBody
  unfold IntervalFits at hfit
  rw [if_neg (by omega)]
  by_cases h1 : u.decoder.step.toNat = 1
  · -- START_LOW
    rw [if_pos h1] at hfit ⊢
    exact ⟨u.decoder, inWindow_of_admits hfit _, rfl, rfl, hdec.of_no_gap hle (by omega)⟩
  by_cases h2 : u.decoder.step.toNat = 2
  · -- START_HIGH
    rw [if_neg h1, if_pos h2] at hfit ⊢
    exact ⟨u.decoder, inWindow_of_admits hfit _, rfl, rfl, hdec.of_no_gap hle (by omega)⟩
  rw [if_neg h1, if_neg h2, if_pos hle] at hfit ⊢
  by_cases hodd : u.decoder.step.toNat % 2 = 1
  · -- BIT_PULSE
    rw [if_pos hodd] at hfit ⊢
    exact ⟨u.decoder, inWindow_of_admits hfit _, rfl, rfl, hdec.of_no_gap hle (by omega)⟩
  · -- BIT_GAP
    rw [if_neg hodd] at hfit ⊢
    refine ⟨_, decideBit_of_fits hfit, ?_, ?_, hdec.of_gap (by omega) hle (by omega)⟩
    · split_ifs
      · exact u.decoder.setFrameBit_step _
      · rfl
    · split_ifs
      · exact u.decoder.setFrameBit_expected_dir _
      · rfl

/-! ### In the middle of a frame -/

/-- Where the frame `f`, begun in the state `s`, stands before the intervals `ns`: their edges are pending, the last edge
answered Pending, and the decoder has decided the bits of the gaps passed. -/
structure MidFrame (s : State) (rest : List Nat) (f : BitVec 32) (ns : List Nat) (u : State) : Prop where
  cfg     : u.cfg = s.cfg
  mailbox : u.mailbox = s.mailbox
  resp    : u.resp = .pending
  pending : u.pending =
    (Trace.ivls u.cfg.TS_WIDTH ns ⟨u.decoder.last_ts, u.decoder.expected_dir⟩).map (encodeEvent u.cfg.TS_WIDTH) ++ rest
  place   : 1 ≤ u.decoder.step.toNat ∧ u.decoder.step.toNat + ns.length = 68
  decided : Decided f u.decoder.step u.decoder
  fits    : IntervalsFit u.cfg f u.decoder.step.toNat ns
  widths  : ∀ n ∈ ns, n < 2 ^ u.cfg.TS_WIDTH

/-- What an accepted edge writes to DecoderState. -/
theorem accept_decoder (ts : Nat) (s : State) : (accept ts s).decoder =
    { s.decoder with
      step := s.decoder.step + 1, last_ts := ts, expected_dir := s.decoder.expected_dir.flip } := rfl

/-- The start edge begins a frame. -/
theorem midFrame_of_start {s : State} {rest ns : List Nat} {f : BitVec 32} {t0 : Nat} (hinit : s.decoder = .INIT)
    (hpending : s.pending = (Trace.edges s.cfg.TS_WIDTH t0 ns).map (encodeEvent s.cfg.TS_WIDTH) ++ rest)
    (ht0 : t0 < 2 ^ s.cfg.TS_WIDTH) (hlength : ns.length = 67) (hfits : IntervalsFit s.cfg f 1 ns)
    (hwidths : ∀ n ∈ ns, n < 2 ^ s.cfg.TS_WIDTH) : ∃ u, step s = .next u ∧ MidFrame s rest f ns u := by
  have hdir : polarityPasses s .falling := fun _ => by rw [hinit, DecoderState.INIT_expected_dir]
  have hbody : edgeBody s.decoder.step t0 s.consumed = accept t0 s.consumed := by
    rw [hinit]
    rfl
  have hdecoder : (accept t0 s.consumed).decoder = { DecoderState.INIT with
      step := 1, last_ts := t0, expected_dir := .rising } := by
    rw [accept_decoder, State.consumed_decoder, hinit]
    rfl
  refine ⟨accept t0 s.consumed, by rw [step_of_edge hpending ht0 hdir, hbody], rfl, rfl, rfl, ?_, ?_, ?_, ?_, hwidths⟩
  · -- the words pending
    rw [hdecoder, accept_pending, State.consumed_pending, hpending]
    rfl
  · -- the place
    rw [hdecoder, hlength]
    exact ⟨le_refl 1, rfl⟩
  · -- the bits decided: none
    have hframe : (accept t0 s.consumed).decoder.frame = 0#32 := by
      rw [accept_frame, State.consumed_decoder, hinit]
      rfl
    intro i _
    have hnone : ¬ i < gapsPassed 1 := Nat.not_lt_zero i
    rw [hframe, BitVec.getLsbD_zero, hdecoder, decide_eq_false hnone, Bool.and_false]
  · -- the intervals to come
    rw [hdecoder]
    exact hfits

/-- The state after the edge of the next interval. -/
theorem MidFrame.step_next {s u : State} {rest ns : List Nat} {f : BitVec 32} {n : Nat}
    (h : MidFrame s rest f (n :: ns) u) :
    step u = .next (edgeBody u.decoder.step ((u.decoder.last_ts + n) % 2 ^ u.cfg.TS_WIDTH) u.consumed) :=
  step_of_edge h.pending (Nat.mod_lt _ (by positivity)) fun _ => rfl

/-- The interval that the decoder sees is the next one of the frame. -/
theorem MidFrame.intervalAt_next {s u : State} {rest ns : List Nat} {f : BitVec 32} {n : Nat}
    (h : MidFrame s rest f (n :: ns) u) :
    intervalAt u.consumed ((u.decoder.last_ts + n) % 2 ^ u.cfg.TS_WIDTH) = n :=
  interval_add _ _ _ (h.widths n List.mem_cons_self)

/-- Every edge but the last is accepted and leaves the frame one interval further on. -/
theorem MidFrame.advance {s u : State} {rest ns : List Nat} {f : BitVec 32} {n : Nat}
    (h : MidFrame s rest f (n :: ns) u) (hns : ns ≠ []) : ∃ v, step u = .next v ∧ MidFrame s rest f ns v := by
  obtain ⟨hcfg, hmailbox, -, hpending, ⟨hge, hlength⟩, hdec, ⟨hfit, hfits⟩, hwidths⟩ := id h
  have hle : u.decoder.step.toNat ≤ 66 := by
    have := List.length_pos_iff.mpr hns
    rw [List.length_cons] at hlength
    omega
  rw [← h.intervalAt_next] at hfit
  obtain ⟨d, hbody, hstep, hdir, hdec'⟩ := edgeBody_of_fits (u := u.consumed) hge hle hfit hdec
  rw [State.consumed_decoder] at hstep hdir hdec'
  have hnat : (d.step + 1).toNat = u.decoder.step.toNat + 1 := by rw [hstep, toNat_step_add_one hle]
  refine ⟨_, h.step_next.trans (congrArg _ hbody), hcfg, hmailbox, rfl, ?_, ?_, ?_, ?_,
    fun m hm => hwidths m (List.mem_cons_of_mem n hm)⟩
  · -- the words pending
    rw [accept_expected_dir, accept_last_ts, accept_pending, State.consumed_pending, hpending, hdir]
    rfl
  · -- the place
    rw [accept_step, hnat]
    rw [List.length_cons] at hlength
    omega
  · -- the bits decided
    rw [accept_step, hstep]
    exact hdec'
  · -- the intervals to come
    rw [accept_step, hnat]
    exact hfits

/-- The edges of the intervals `xs` are accepted one after the other. -/
theorem MidFrame.run_until {s u : State} {rest xs ys : List Nat} {f : BitVec 32} (h : MidFrame s rest f (xs ++ ys) u)
    (hys : ys ≠ []) : ∃ v, run xs.length u = .next v ∧ MidFrame s rest f ys v := by
  induction xs generalizing u with
  | nil => exact ⟨u, rfl, h⟩
  | cons x xs ih =>
    obtain ⟨v, hstep, hv⟩ := h.advance (List.append_ne_nil_of_right_ne_nil xs hys)
    obtain ⟨w, hrun, hw⟩ := ih hv
    exact ⟨w, (run_succ_of_next _ hstep).trans hrun, hw⟩

/-! ### The last edge of a frame -/

theorem complementOk_iff (d : DecoderState) :
    d.complementOk = true ↔ d.address = ~~~d.address_inverse ∧ d.command = ~~~d.command_inverse := by
  rw [DecoderState.complementOk, Bool.and_eq_true, beq_iff_eq, beq_iff_eq]

/-- The accumulators are the bytes of the frame view. -/
theorem extractLsb'_frame (d : DecoderState) :
    d.frame.extractLsb' 0 8 = d.address ∧ d.frame.extractLsb' 8 8 = d.address_inverse ∧
    d.frame.extractLsb' 16 8 = d.command ∧ d.frame.extractLsb' 24 8 = d.command_inverse := by
  unfold DecoderState.frame
  refine ⟨?_, ?_, ?_, BitVec.extractLsb'_append_eq_left⟩
  · rw [BitVec.extractLsb'_append_eq_of_add_le (by norm_num), BitVec.extractLsb'_append_eq_of_add_le (by norm_num)]
    exact BitVec.extractLsb'_append_eq_right
  · rw [BitVec.extractLsb'_append_eq_of_add_le (by norm_num), BitVec.extractLsb'_append_eq_of_add_le (by norm_num)]
    exact BitVec.extractLsb'_append_eq_left
  · rw [BitVec.extractLsb'_append_eq_of_add_le (by norm_num)]
    exact BitVec.extractLsb'_append_eq_left

/-- The stop edge of the frame `f` validates it: the decoder is `INIT` again, with the frame in the mailbox or a
ComplementMismatch. -/
theorem MidFrame.last_step {s u : State} {rest : List Nat} {f : BitVec 32} {stop : Nat}
    (h : MidFrame s rest f [stop] u) (hinit : s.decoder = .INIT) :
    step u = .next
      (if f.extractLsb' 0 8 = ~~~f.extractLsb' 8 8 ∧ f.extractLsb' 16 8 = ~~~f.extractLsb' 24 8 then
        { s with
          mailbox := { frame_ready := true, frame_address := f.extractLsb' 0 8, frame_command := f.extractLsb' 16 8 }
          pending := rest
          resp := .frameReady (f.extractLsb' 0 8) (f.extractLsb' 16 8)
          cause := none }
      else { s with pending := rest, resp := .resync, cause := some .complementMismatch }) := by
  obtain ⟨hcfg, hmailbox, -, hpending, ⟨-, hlength⟩, hdec, ⟨hfit, -⟩, -⟩ := id h
  have hstep : u.decoder.step = 67 := BitVec.eq_of_toNat_eq (Nat.add_right_cancel hlength)
  have hbody : edgeBody u.decoder.step ((u.decoder.last_ts + stop) % 2 ^ u.cfg.TS_WIDTH) u.consumed =
      validateFrame u.consumed := by
    rw [hstep] at hfit ⊢
    exact inWindow_of_admits (by rw [h.intervalAt_next]; exact hfit) _
  rw [hstep] at hdec
  obtain ⟨ha, hai, hc, hci⟩ := extractLsb'_frame u.decoder
  rw [hdec.frame_eq] at ha hai hc hci
  have hrest : u.consumed.pending = rest := by rw [State.consumed_pending, hpending]; rfl
  rw [h.step_next, hbody, ha, hai, hc, hci]
  rcases validateFrame_cases u.consumed with ⟨hok, he⟩ | ⟨hbad, he⟩ <;> rw [he]
  · have hbytes := (complementOk_iff u.decoder).mp hok
    rw [if_pos hbytes, hinit, ← hcfg, ← hrest]
    rfl
  · have hbytes : ¬ (u.decoder.address = ~~~u.decoder.address_inverse ∧
        u.decoder.command = ~~~u.decoder.command_inverse) :=
      fun hok => Bool.false_ne_true (hbad.symm.trans ((complementOk_iff u.decoder).mpr hok))
    rw [if_neg hbytes, hinit, ← hcfg, ← hmailbox, ← hrest]
    rfl

/-! ### A whole frame -/

/-- From `INIT`, the first `k + 1` edges of a frame are accepted, and those of the later intervals are still to come. -/
theorem run_frame_until {s : State} {rest ns : List Nat} {f : BitVec 32} {t0 k : Nat} (hinit : s.decoder = .INIT)
    (hpending : s.pending = (Trace.edges s.cfg.TS_WIDTH t0 ns).map (encodeEvent s.cfg.TS_WIDTH) ++ rest)
    (ht0 : t0 < 2 ^ s.cfg.TS_WIDTH) (hlength : ns.length = 67) (hfits : IntervalsFit s.cfg f 1 ns)
    (hwidths : ∀ n ∈ ns, n < 2 ^ s.cfg.TS_WIDTH) (hk : k < 67) :
    ∃ v, run (k + 1) s = .next v ∧ MidFrame s rest f (ns.drop k) v := by
  obtain ⟨u, hstart, hu⟩ := midFrame_of_start hinit hpending ht0 hlength hfits hwidths
  rw [← List.take_append_drop k ns] at hu
  obtain ⟨v, hrun, hv⟩ := hu.run_until fun hnil => by
    have := List.drop_eq_nil_iff.mp hnil
    omega
  rw [List.length_take_of_le (by omega)] at hrun
  exact ⟨v, (run_succ_of_next k hstart).trans hrun, hv⟩

theorem drop_frameIntervals (low high : Nat) (pulse gap : Nat → Nat) (stop : Nat) :
    (frameIntervals low high pulse gap stop).drop 66 = [stop] :=
  List.drop_left' (by rw [List.length_append, length_bits]; rfl)

/-- Settles O57: 67 edges are accepted, and the stop edge finds the frame that the gaps spell. -/
theorem frameInsideTheWindowsIsDecoded : Obligations.FrameInsideTheWindowsIsDecoded := by
  intro s rest t0 low high stop pulse gap f W ivls a ai c ci hinit hpending ht0 hwidths hlow hhigh hpulse hgap hstop
  obtain ⟨v, hrun, hv⟩ := run_frame_until (k := 66) hinit hpending ht0 (length_frameIntervals low high pulse gap stop)
    (intervalsFit_frameIntervals hlow hhigh hpulse hgap hstop) hwidths (by norm_num)
  rw [drop_frameIntervals] at hv
  calc run 68 s = run 1 v := run_add 67 1 hrun
    _ = _ := run_succ_of_next 0 (hv.last_step hinit)

/-! ### A nominal NECFRAME -/

/-- The nominal interval of the gap of bit `k`. -/
def nominalGap (cfg : Cfg) (f : BitVec 32) (k : Nat) : Nat :=
  if f.getLsbD k then cfg.BIT_ONE_GAP.T else cfg.BIT_ZERO_GAP.T

/-- The accumulators that a NECFRAME fills: address and command, each with its complement (R82). -/
def necBytes (a c : Byte) : DecoderState :=
  { DecoderState.INIT with address := a, address_inverse := ~~~a, command := c, command_inverse := ~~~c }

/-- The nominal intervals of a NECFRAME. -/
def necIntervals (cfg : Cfg) (a c : Byte) : List Nat :=
  frameIntervals cfg.START_LOW.T cfg.START_HIGH.T (fun _ => cfg.BIT_PULSE.T) (nominalGap cfg (necBytes a c).frame)
    cfg.STOP_PULSE.T

theorem flatMap_range_add (m n : Nat) (g : Nat → List Nat) :
    (List.range (m + n)).flatMap g = (List.range m).flatMap g ++ (List.range n).flatMap fun j => g (m + j) := by
  rw [List.range_add, List.flatMap_append, List.flatMap_map]

/-- The intervals of a byte are those of the eight bits of `f` that it stands for. -/
theorem flatMap_nominalGap_eq_byte {cfg : Cfg} {f : BitVec 32} {m : Nat} {b : Byte}
    (h : ∀ j, j < 8 → f.getLsbD (m + j) = b.getLsbD j) :
    ((List.range 8).flatMap fun j => [cfg.BIT_PULSE.T, nominalGap cfg f (m + j)]) = Trace.byte cfg b := by
  refine List.flatMap_congr fun j hj => ?_
  rw [nominalGap, h j (List.mem_range.mp hj), Trace.bit]

/-- The edges of a NECFRAME are those of a frame with nominal intervals. -/
theorem necframe_eq (cfg : Cfg) (t0 : Nat) (a c : Byte) :
    Trace.necframe cfg t0 a c = Trace.edges cfg.TS_WIDTH t0 (necIntervals cfg a c) := by
  have hbits : ((List.range 32).flatMap fun k => [cfg.BIT_PULSE.T, nominalGap cfg (necBytes a c).frame k]) =
      Trace.byte cfg a ++ Trace.byte cfg (~~~a) ++ Trace.byte cfg c ++ Trace.byte cfg (~~~c) := by
    rw [show 32 = 8 + 8 + 8 + 8 from rfl, flatMap_range_add, flatMap_range_add, flatMap_range_add]
    congr 1
    · congr 1
      · congr 1
        · exact flatMap_nominalGap_eq_byte (m := 0) fun j hj => by
            rw [Nat.zero_add]; exact (necBytes a c).getLsbD_frame_address j hj
        · exact flatMap_nominalGap_eq_byte (necBytes a c).getLsbD_frame_address_inverse
      · exact flatMap_nominalGap_eq_byte (necBytes a c).getLsbD_frame_command
    · exact flatMap_nominalGap_eq_byte (necBytes a c).getLsbD_frame_command_inverse
  rw [Trace.necframe, Trace.frame, necIntervals, frameIntervals, hbits]
  simp only [List.append_assoc]

theorem admits_target {w : Window} (h : 1 ≤ w.TOL) : w.admits w.T = true :=
  (w.admits_iff w.T).mpr (by omega)

/-- What R6 asks of the six windows: none reaches below 0 or beyond the counter. -/
theorem window_bounds {cfg : Cfg} (h : cfg.asDocDescribes = true) :
    ∀ w ∈ cfg.windows, w.TOL ≤ w.T ∧ w.T + w.TOL < 2 ^ cfg.TS_WIDTH := by
  simp only [Cfg.asDocDescribes, Bool.and_eq_true, List.all_eq_true, decide_eq_true_eq] at h
  obtain ⟨⟨-, hbounds⟩, -⟩ := h
  exact hbounds

/-- What R6 asks of the two gap windows: one ends before the other begins. -/
theorem gapWindows_disjoint {cfg : Cfg} (h : cfg.asDocDescribes = true) :
    cfg.BIT_ZERO_GAP.T + cfg.BIT_ZERO_GAP.TOL ≤ cfg.BIT_ONE_GAP.T - cfg.BIT_ONE_GAP.TOL + 1 ∨
    cfg.BIT_ONE_GAP.T + cfg.BIT_ONE_GAP.TOL ≤ cfg.BIT_ZERO_GAP.T - cfg.BIT_ZERO_GAP.TOL + 1 := by
  simp only [Cfg.asDocDescribes, Bool.and_eq_true, Bool.or_eq_true, decide_eq_true_eq] at h
  obtain ⟨-, hdisjoint⟩ := h
  exact hdisjoint

/-- A window does not admit the target of a window apart from it. -/
theorem not_admits_of_apart {w v : Window} (hw : w.TOL ≤ w.T) (hv : v.TOL ≤ v.T) (htol : 1 ≤ v.TOL)
    (h : w.T + w.TOL ≤ v.T - v.TOL + 1 ∨ v.T + v.TOL ≤ w.T - w.TOL + 1) : w.admits v.T = false := by
  rw [← Bool.not_eq_true, w.admits_iff]
  omega

/-- A nominal gap is of the class of its bit. -/
theorem gapClass_nominalGap {cfg : Cfg} (hdoc : cfg.asDocDescribes = true) (htol : ∀ w ∈ cfg.windows, 1 ≤ w.TOL)
    (f : BitVec 32) (k : Nat) : gapClass cfg (nominalGap cfg f k) = if f.getLsbD k then .one else .zero := by
  have hzero : cfg.BIT_ZERO_GAP ∈ cfg.windows := by simp [Cfg.windows]
  have hone : cfg.BIT_ONE_GAP ∈ cfg.windows := by simp [Cfg.windows]
  obtain ⟨hzeroLe, -⟩ := window_bounds hdoc _ hzero
  obtain ⟨honeLe, -⟩ := window_bounds hdoc _ hone
  have hapart := gapWindows_disjoint hdoc
  by_cases hbit : f.getLsbD k = true
  · rw [nominalGap, if_pos hbit, if_pos hbit, gapClass_eq, admits_target (htol _ hone),
      not_admits_of_apart hzeroLe honeLe (htol _ hone) hapart]
    rfl
  · rw [nominalGap, if_neg hbit, if_neg hbit, gapClass_eq, admits_target (htol _ hzero),
      not_admits_of_apart honeLe hzeroLe (htol _ hzero) hapart.symm]
    rfl

/-- Every nominal interval is the target of a window. -/
theorem exists_window_of_mem_necIntervals {cfg : Cfg} {a c : Byte} {n : Nat} (h : n ∈ necIntervals cfg a c) :
    ∃ w ∈ cfg.windows, n = w.T := by
  simp only [necIntervals, frameIntervals, List.mem_append, List.mem_cons, List.not_mem_nil, or_false,
    List.mem_flatMap] at h
  rcases h with ((rfl | rfl) | ⟨k, -, rfl | rfl⟩) | rfl
  · exact ⟨cfg.START_LOW, by simp [Cfg.windows], rfl⟩
  · exact ⟨cfg.START_HIGH, by simp [Cfg.windows], rfl⟩
  · exact ⟨cfg.BIT_PULSE, by simp [Cfg.windows], rfl⟩
  · unfold nominalGap
    split_ifs
    · exact ⟨cfg.BIT_ONE_GAP, by simp [Cfg.windows], rfl⟩
    · exact ⟨cfg.BIT_ZERO_GAP, by simp [Cfg.windows], rfl⟩
  · exact ⟨cfg.STOP_PULSE, by simp [Cfg.windows], rfl⟩

/-- Settles O58: the 68 edges are a frame inside the windows, and its bytes are complementary. -/
theorem nominalNecFrameGivesOneFrame : Obligations.NominalNecFrameGivesOneFrame := by
  intro s rest t0 a c hdoc htol hinit ht0 hpending
  rw [necframe_eq] at hpending
  have hwindow : ∀ w ∈ s.cfg.windows, w.admits w.T = true := fun w hw => admits_target (htol w hw)
  have hlow := hwindow s.cfg.START_LOW (by simp [Cfg.windows])
  have hhigh := hwindow s.cfg.START_HIGH (by simp [Cfg.windows])
  have hpulse := hwindow s.cfg.BIT_PULSE (by simp [Cfg.windows])
  have hstop := hwindow s.cfg.STOP_PULSE (by simp [Cfg.windows])
  have hgap := gapClass_nominalGap hdoc htol (necBytes a c).frame
  have hwidths : ∀ n ∈ necIntervals s.cfg a c, n < 2 ^ s.cfg.TS_WIDTH := by
    intro n hn
    obtain ⟨w, hw, rfl⟩ := exists_window_of_mem_necIntervals hn
    obtain ⟨-, hlt⟩ := window_bounds hdoc w hw
    omega
  constructor
  · intro k hk
    obtain ⟨v, hrun, hv⟩ := run_frame_until hinit hpending ht0 (length_frameIntervals _ _ _ _ _)
      (intervalsFit_frameIntervals hlow hhigh (fun _ _ => hpulse) (fun k _ => hgap k) hstop) hwidths hk
    exact ⟨v, hrun, hv.resp⟩
  · have hrun := frameInsideTheWindowsIsDecoded s rest t0 _ _ _ _ _ (necBytes a c).frame hinit hpending ht0 hwidths
      hlow hhigh (fun _ _ => hpulse) (fun k _ => hgap k) hstop
    obtain ⟨ha, hai, hc, hci⟩ := extractLsb'_frame (necBytes a c)
    rw [ha, hai, hc, hci, if_pos ⟨(BitVec.not_not).symm, (BitVec.not_not).symm⟩] at hrun
    exact hrun

end Sys2Proof.Machine
end

section
/-! PROOFS, 40_classifier.md. The classifier and the block's arithmetic (spec/40_classifier.md R101 to R108): what each
pure function answers, and that an EDGE reads its timestamp and `last_ts` only through their difference (R101). -/

namespace Sys2Proof

/-! ### The interval -/

/-- Settles O25: the integer difference of two `W`-bit timestamps, or that difference with `2 ^ W` added, lies in the
range of the remainder. -/
theorem intervalIsWrappingSubtraction : Obligations.IntervalIsWrappingSubtraction := by
  intro W last ts hlast hts
  refine ⟨?_, interval_lt W last ts⟩
  have hcast := interval_cast W last ts
  split_ifs with hle
  · rw [Int.emod_eq_of_lt (by omega) (by omega)] at hcast
    omega
  · rw [← Int.add_emod_right, Int.emod_eq_of_lt (by omega) (by omega)] at hcast
    omega

/-- Both timestamps moved by `c` ticks modulo `2 ^ W` leave the interval as it is. -/
theorem interval_move (W last ts c : Nat) :
    interval W ((last + c) % 2 ^ W) ((ts + c) % 2 ^ W) = interval W last ts := by
  unfold interval
  push_cast
  rw [← Int.sub_emod, show (ts + c : Int) - (last + c) = ts - last by ring]

/-! ### The windows -/

/-- A window that does not reach below 0, as a closed range of intervals. -/
theorem Window.admits_iff_range {w : Window} (h : w.TOL ≤ w.T) (d : Nat) :
    w.admits d = true ↔ w.T - w.TOL + 1 ≤ d ∧ d ≤ w.T + w.TOL - 1 := by
  rw [w.admits_iff]
  omega

/-- A window rejects the intervals that fail one of its inequalities. -/
theorem Window.not_admits_iff (w : Window) (d : Nat) :
    w.admits d = false ↔ ¬((w.T : Int) - w.TOL < d ∧ (d : Int) < w.T + w.TOL) := by
  rw [← Bool.not_eq_true, w.admits_iff]

/-- Settles O27: each corner case is read off the two inequalities. -/
theorem windowIsOpenOnBothSides : Obligations.WindowIsOpenOnBothSides := by
  intro w d
  refine ⟨w.admits_iff d, fun htol => ?_, fun htol => ?_, ?_, fun hle => ?_, Machine.admits_target⟩
  · -- an empty window
    rw [w.not_admits_iff]
    omega
  · -- the target alone
    rw [w.admits_iff]
    omega
  · -- the upper end
    rw [w.not_admits_iff]
    omega
  · -- the lower end
    rw [w.not_admits_iff]
    omega

/-- Settles O28: no default window reaches below 0, so each is its closed range. -/
theorem defaultWindowsAcceptTheTabledIntervals : Obligations.DefaultWindowsAcceptTheTabledIntervals := fun d =>
  ⟨Window.admits_iff_range (by decide) d, Window.admits_iff_range (by decide) d,
    Window.admits_iff_range (by decide) d, Window.admits_iff_range (by decide) d,
    Window.admits_iff_range (by decide) d, Window.admits_iff_range (by decide) d⟩

/-- A window with both numbers multiplied by `r` answers for `r * d` as before for `d`: a positive factor keeps both
inequalities. -/
theorem Window.admits_scale {r : Nat} (hr : 0 < r) (w : Window) (d : Nat) :
    Window.admits ⟨r * w.T, r * w.TOL⟩ (r * d) = w.admits d := by
  have hpos : (0 : Int) < r := by exact_mod_cast hr
  rw [Bool.eq_iff_iff, Window.admits_iff, Window.admits_iff]
  push_cast
  rw [← mul_sub, ← mul_add, mul_lt_mul_iff_right₀ hpos, mul_lt_mul_iff_right₀ hpos]

/-- Settles O29: a gap's class is read from its two windows alone. -/
theorem classifierScalesWithTheTickRate : Obligations.ClassifierScalesWithTheTickRate := by
  intro r c d hr
  have hzero : (c.scale r).BIT_ZERO_GAP.admits (r * d) = c.BIT_ZERO_GAP.admits d := Window.admits_scale hr _ d
  have hone : (c.scale r).BIT_ONE_GAP.admits (r * d) = c.BIT_ONE_GAP.admits d := Window.admits_scale hr _ d
  refine ⟨Window.admits_scale hr _ d, Window.admits_scale hr _ d, Window.admits_scale hr _ d, ?_,
    Window.admits_scale hr _ d⟩
  rw [gapClass_eq, gapClass_eq, hzero, hone]

/-- Settles O30: by the four pairs of answers that the two gap windows can give. -/
theorem gapClassNeedsExactlyOneWindow : Obligations.GapClassNeedsExactlyOneWindow := by
  intro c d
  rw [gapClass_eq]
  cases c.BIT_ZERO_GAP.admits d <;> cases c.BIT_ONE_GAP.admits d <;> decide

/-! ### The complement check -/

/-- Complementary bytes differ in every bit. -/
theorem eq_not_iff_xor_eq (x y : Byte) : x = ~~~y ↔ x ^^^ y = 0xFF := by
  have hones : ~~~y ^^^ y = 0xFF := by rw [← BitVec.not_xor_left, BitVec.xor_self]; rfl
  rw [← BitVec.xor_left_inj y, hones]

/-- Complementary bytes add up to 255. -/
theorem eq_not_iff_toNat_add_eq (x y : Byte) : x = ~~~y ↔ x.toNat + y.toNat = 255 := by
  have hy := y.isLt
  rw [BitVec.toNat_eq, BitVec.toNat_not]
  omega

/-- Settles O31: both forms, byte pair by byte pair. -/
theorem complementCheckHasThreeForms : Obligations.ComplementCheckHasThreeForms := by
  intro d
  have hok := Machine.complementOk_iff d
  refine ⟨hok, ?_, ?_⟩
  · rw [hok, eq_not_iff_xor_eq, eq_not_iff_xor_eq]
  · rw [hok, eq_not_iff_toNat_add_eq, eq_not_iff_toNat_add_eq]

/-! ### A bit set -/

/-- Settles O32: a bit that is 1 already is the only one that the result could differ in. -/
theorem setBitSetsOneBitAndClearsNone : Obligations.SetBitSetsOneBitAndClearsNone := by
  intro acc k _
  refine ⟨fun j hj => ?_, fun hset => BitVec.eq_of_getLsbD_eq fun j hj => ?_⟩
  · rw [getLsbD_setBit acc k j hj, decide_eq_decide.mpr eq_comm]
  · rw [getLsbD_setBit acc k j hj]
    by_cases hkj : k = j
    · rw [← hkj, hset, Bool.true_or]
    · rw [decide_eq_false hkj, Bool.or_false]

namespace Machine

/-! ### Only differences of timestamps matter

`withLastTs` moves the stored timestamp, and `restamp` moves it where the event just performed has stored it. Each
shared operation, run on a moved state, gives the restamped outcome as long as the interval is the same. -/

/-- The state with another stored timestamp. -/
def withLastTs (last : Nat) (s : State) : State := { s with decoder := { s.decoder with last_ts := last } }

/-- The outcome of an EDGE with another timestamp stored, if the edge was accepted and stored one. -/
def restamp (ts : Nat) (t : State) : State := if t.resp = .pending then withLastTs ts t else t

theorem restamp_of_pending {t : State} (h : t.resp = .pending) (ts : Nat) : restamp ts t = withLastTs ts t := if_pos h

theorem restamp_of_not_pending {t : State} (h : t.resp ≠ .pending) (ts : Nat) : restamp ts t = t := if_neg h

/-- A frame bit set in a moved state is the state with that bit set, moved. -/
theorem setFrameBit_withLastTs (last : Nat) (s : State) (i : Nat) :
    { withLastTs last s with decoder := (withLastTs last s).decoder.setFrameBit i } =
      withLastTs last { s with decoder := s.decoder.setFrameBit i } := by
  unfold DecoderState.setFrameBit
  split_ifs <;> rfl

theorem accept_withLastTs (last ts ts' : Nat) (s : State) :
    accept ts' (withLastTs last s) = restamp ts' (accept ts s) :=
  (restamp_of_pending (accept_resp ts s) ts').symm

theorem raiseResync_withLastTs (last ts' : Nat) (c : Cause) (s : State) :
    raiseResync c (withLastTs last s) = restamp ts' (raiseResync c s) :=
  (restamp_of_not_pending (by rw [raiseResync_resp]; nofun) ts').symm

theorem validateFrame_withLastTs (last ts' : Nat) (s : State) :
    validateFrame (withLastTs last s) = restamp ts' (validateFrame s) := by
  rcases validateFrame_cases s with ⟨hok, he⟩ | ⟨hbad, he⟩ <;> rw [he]
  · rw [restamp_of_not_pending (by rw [emitFrame_resp]; nofun)]
    exact if_pos hok
  · rw [← raiseResync_withLastTs last]
    exact if_neg (ne_true_of_eq_false hbad)

theorem edgeOp_withLastTs (dir : Dir) (last ts' : Nat) (s body : State) :
    edgeOp dir (withLastTs last s) (restamp ts' body) = restamp ts' (edgeOp dir s body) := by
  unfold edgeOp
  rw [apply_ite (restamp ts'), ← raiseResync_withLastTs last]
  rfl

section
variable {last ts ts' : Nat} {s : State} (h : intervalAt (withLastTs last s) ts' = intervalAt s ts)
include h

theorem inWindow_withLastTs (w : Window) (onMatch : State) :
    inWindow w ts' (withLastTs last s) (restamp ts' onMatch) = restamp ts' (inWindow w ts s onMatch) := by
  unfold inWindow
  rw [h, apply_ite (restamp ts'), ← raiseResync_withLastTs last]

theorem decideBit_withLastTs : decideBit ts' (withLastTs last s) = restamp ts' (decideBit ts s) := by
  have hclass : gapClass (withLastTs last s).cfg (intervalAt (withLastTs last s) ts') =
      gapClass s.cfg (intervalAt s ts) := by rw [h]; rfl
  unfold decideBit
  rw [hclass]
  cases gapClass s.cfg (intervalAt s ts) with
  | zero => exact accept_withLastTs last ts ts' s
  | one => exact (congrArg (accept ts') (setFrameBit_withLastTs last s _)).trans (accept_withLastTs last ts ts' _)
  | neither => exact raiseResync_withLastTs last ts' _ s

theorem edgeBody_withLastTs (step : StepReg) :
    edgeBody step ts' (withLastTs last s) = restamp ts' (edgeBody step ts s) := by
  have haccept := accept_withLastTs last ts ts' s
  unfold edgeBody
  rw [haccept, validateFrame_withLastTs last ts' s]
  split_ifs
  · -- AWAIT_START
    rfl
  · -- START_LOW
    exact inWindow_withLastTs h _ _
  · -- START_HIGH
    exact inWindow_withLastTs h _ _
  · -- BIT_PULSE
    exact inWindow_withLastTs h _ _
  · -- BIT_GAP
    exact decideBit_withLastTs h
  · -- STOP_PULSE
    exact inWindow_withLastTs h _ _
  · -- BAD_STEP
    exact raiseResync_withLastTs last ts' _ s

end

/-- Settles O24: the moved edge sees the same interval, and the timestamp is stored by an accepted edge alone. -/
theorem onlyTimeDifferencesMatter : Obligations.OnlyTimeDifferencesMatter := by
  intro ts c dir s t hexec W
  have hinterval : intervalAt (withLastTs ((s.decoder.last_ts + c) % 2 ^ W) s) ((ts + c) % 2 ^ W) = intervalAt s ts :=
    interval_move W s.decoder.last_ts ts c
  obtain rfl := Host.Outcome.next.inj ((exec_edgeRow s.decoder.step dir ts s).symm.trans hexec)
  refine (exec_edgeRow s.decoder.step dir _ (withLastTs ((s.decoder.last_ts + c) % 2 ^ W) s)).trans ?_
  rw [edgeBody_withLastTs hinterval, edgeOp_withLastTs]
  rfl

end Machine

end Sys2Proof
end

section
/-! PROOFS, 41_edge_operations.md. What each EDGE row answers once the polarity check has passed
(spec/41_edge_operations.md R125 to R135), the check itself (R121), what an accepted edge leaves alone (R122), that every
event has a next state (R139), and that a frame needs 68 edges (R140). -/

namespace Sys2Proof.Machine

/-! ### The polarity check -/

/-- In strict mode an edge of the wrong direction never reaches the body of its row. -/
theorem edgeOp_of_wrong {dir : Dir} {s : State} (hstrict : s.cfg.POLARITY_STRICT = true)
    (hdir : dir ≠ s.decoder.expected_dir) (body : State) : edgeOp dir s body = raiseResync .polarityViolation s := by
  rcases edgeOp_cases dir s body with ⟨-, -, he⟩ | ⟨hpass, -⟩
  · exact he
  · exact absurd (hpass hstrict) hdir

/-- Trust mode lets every edge pass. -/
theorem polarityPasses_of_trust {s : State} (htrust : s.cfg.POLARITY_STRICT = false) (dir : Dir) :
    polarityPasses s dir :=
  fun hstrict => absurd (htrust.symm.trans hstrict) Bool.false_ne_true

/-- Settles O12: every EDGE row is the polarity check in front of a body, and here the check fails. -/
theorem wrongDirectionEdgeResyncsInStrictMode : Obligations.WrongDirectionEdgeResyncsInStrictMode := by
  intro i ts dir s hi hstrict hdir
  obtain ⟨step, hexec⟩ := exec_edge_eq hi
  rw [hexec, edgeOp_of_wrong hstrict hdir]
  rfl

/-- Settles O14: in trust mode the row's body runs for either direction, and no body reads `dir`. -/
theorem trustModeNeverReadsDirection : Obligations.TrustModeNeverReadsDirection := by
  intro step ts d₁ d₂ s htrust
  rw [exec_edgeRow, exec_edgeRow, edgeOp_of_passes (polarityPasses_of_trust htrust d₁),
    edgeOp_of_passes (polarityPasses_of_trust htrust d₂)]

/-! ### The rows that test one window or none -/

theorem exec_edgeAwaitStart (dir : Dir) (ts : Nat) (s : State) :
    exec (.edgeAwaitStart dir ts) s = .next (edgeOp dir s (accept ts s)) := rfl

theorem exec_edgeStartLow (dir : Dir) (ts : Nat) (s : State) :
    exec (.edgeStartLow dir ts) s = .next (edgeOp dir s (inWindow s.cfg.START_LOW ts s (accept ts s))) := rfl

theorem exec_edgeStartHigh (dir : Dir) (ts : Nat) (s : State) :
    exec (.edgeStartHigh dir ts) s = .next (edgeOp dir s (inWindow s.cfg.START_HIGH ts s (accept ts s))) := rfl

theorem exec_edgeStopPulse (dir : Dir) (ts : Nat) (s : State) :
    exec (.edgeStopPulse dir ts) s = .next (edgeOp dir s (inWindow s.cfg.STOP_PULSE ts s (validateFrame s))) := rfl

theorem intervalAt_eq (s : State) (ts : Nat) :
    intervalAt s ts = interval s.cfg.TS_WIDTH s.decoder.last_ts ts := rfl

/-- All that an accepted edge writes, with the `step` it leaves named. -/
theorem accept_eq_of_next {s : State} {n : StepReg} (hnext : s.decoder.step + 1 = n) (ts : Nat) :
    accept ts s = { s with
      decoder := { s.decoder with step := n, last_ts := ts, expected_dir := s.decoder.expected_dir.flip }
      resp := .pending
      cause := none } := by
  rw [← hnext]
  rfl

/-- A row with one window accepts a passing edge inside it and resyncs outside it. -/
theorem windowRow_eq {dir : Dir} {s : State} {n : StepReg} (hdir : polarityPasses s dir)
    (hnext : s.decoder.step + 1 = n) (w : Window) (ts : Nat) :
    edgeOp dir s (inWindow w ts s (accept ts s)) =
      if w.admits (interval s.cfg.TS_WIDTH s.decoder.last_ts ts) = true then
        { s with
          decoder := { s.decoder with step := n, last_ts := ts, expected_dir := s.decoder.expected_dir.flip }
          resp := .pending
          cause := none }
      else { s with decoder := .INIT, resp := .resync, cause := some .timingMismatch } := by
  rw [edgeOp_of_passes hdir, accept_eq_of_next hnext, ← intervalAt_eq]
  rfl

/-- Settles O5: the body of the row is `accept`. -/
theorem awaitStartAcceptsTheFirstEdge : Obligations.AwaitStartAcceptsTheFirstEdge := by
  intro dir ts s hstep hdir
  rw [exec_edgeAwaitStart, edgeOp_of_passes hdir, accept_eq_of_next (n := 1) (by rw [hstep]; rfl)]

/-- Settles O6: a row with one window, START_LOW. -/
theorem startLowTestsTheLeadingPulse : Obligations.StartLowTestsTheLeadingPulse := by
  intro dir ts s hstep hdir
  rw [exec_edgeStartLow, windowRow_eq (n := 2) hdir (by rw [hstep]; rfl)]

/-- Settles O7: a row with one window, START_HIGH. -/
theorem startHighTestsTheLeadingGap : Obligations.StartHighTestsTheLeadingGap := by
  intro dir ts s hstep hdir
  rw [exec_edgeStartHigh, windowRow_eq (n := 3) hdir (by rw [hstep]; rfl)]

/-- The `step` after the one numbered `m`. -/
theorem stepReg_succ {x : StepReg} {m n : Nat} (hx : x = BitVec.ofNat 7 m) (hn : n = m + 1) :
    x + 1 = BitVec.ofNat 7 n := by
  rw [hx, hn]
  exact (BitVec.ofNat_add m 1).symm

/-- Settles O8: the 32 rows are one row with one window, BIT_PULSE. -/
theorem bitPulseTestsEveryDataPulse : Obligations.BitPulseTestsEveryDataPulse := by
  intro k dir ts s _ hstep hdir
  rw [exec_bitPulseRow, bitPulse, windowRow_eq hdir (stepReg_succ (n := 4 + 2 * k) hstep (by omega))]

/-! ### The gap rows -/

/-- The bit that `setBit` sets, as R131 writes it. -/
theorem setBit_eq_or (acc : Byte) (k : Nat) : setBit acc k = acc ||| BitVec.ofNat 8 (2 ^ k) := by
  have htwoPow : BitVec.twoPow 8 k = BitVec.ofNat 8 (2 ^ k) :=
    BitVec.eq_of_toNat_eq (by rw [BitVec.toNat_twoPow, BitVec.toNat_ofNat])
  rw [setBit, BitVec.shiftLeft_eq_mul_twoPow, BitVec.one_mul, htwoPow]

/-- Settles O9: by the class of the gap; the stored `step` selects frame bit `k`. -/
theorem bitGapDecidesEveryDataBit : Obligations.BitGapDecidesEveryDataBit := by
  intro k dir ts s hk hstep hdir moved one
  have hnext : s.decoder.step + 1 = BitVec.ofNat 7 (5 + 2 * k) := stepReg_succ hstep (by omega)
  rw [exec_bitGapRow, bitGap, edgeOp_of_passes hdir, ← intervalAt_eq]
  rcases decideBit_cases ts s with ⟨hclass, he⟩ | ⟨hclass, he⟩ | ⟨hclass, he⟩ <;> rw [he, hclass]
  · -- ZERO
    rw [accept_eq_of_next hnext]
  · -- ONE
    have hnext' : (s.decoder.setFrameBit k).step + 1 = BitVec.ofNat 7 (5 + 2 * k) := by
      rw [DecoderState.setFrameBit_step, hnext]
    rw [hstep, frameBitIndex_gapStep hk, accept_eq_of_next hnext']
    unfold DecoderState.setFrameBit
    split_ifs <;> rw [setBit_eq_or]
  · -- NEITHER
    rfl

/-! ### The stop row and the rows outside the sequence -/

/-- Settles O10: the window first, then the two byte pairs. -/
theorem stopPulseDeliversOrDiscardsTheFrame : Obligations.StopPulseDeliversOrDiscardsTheFrame := by
  intro dir ts s _ hdir
  rw [exec_edgeStopPulse, edgeOp_of_passes hdir, ← intervalAt_eq]
  rcases inWindow_cases s.cfg.STOP_PULSE ts s (validateFrame s) with ⟨hin, he⟩ | ⟨hout, he⟩ <;> rw [he]
  · rw [if_neg (ne_false_of_eq_true hin)]
    rcases validateFrame_cases s with ⟨hok, hv⟩ | ⟨hbad, hv⟩ <;> rw [hv]
    · rw [if_pos ((complementOk_iff s.decoder).mp hok)]
      rfl
    · rw [if_neg (mt (complementOk_iff s.decoder).mpr (ne_true_of_eq_false hbad))]
      rfl
  · rw [if_pos hout]
    rfl

/-- The four rows outside the sequence have one meaning. -/
theorem exec_badStepRow {i : Instr} {dir : Dir} {ts : Nat} (hi : i ∈ [Instr.edgeBadStep68_71 dir ts,
    .edgeBadStep72_79 dir ts, .edgeBadStep80_95 dir ts, .edgeBadStep96_127 dir ts]) (s : State) :
    exec i s = badStep dir s := by
  simp only [List.mem_cons, List.not_mem_nil, or_false] at hi
  rcases hi with rfl | rfl | rfl | rfl <;> rfl

/-- Settles O11: the body of each of the four rows is the Resync. -/
theorem badStepAlwaysResyncs : Obligations.BadStepAlwaysResyncs := by
  intro dir ts s i _ hdir hi
  rw [exec_badStepRow hi, badStep, edgeOp_of_passes hdir]
  rfl

/-! ### Every event has a next state -/

/-- Settles O19: an instruction is the dispatch of its event, and each of the four kinds of event has a next state. -/
theorem everyInstructionHasANextState : Obligations.EveryInstructionHasANextState := by
  intro i s
  rw [← dispatch_stepBits i]
  cases instrEvent i with
  | nop => exact ⟨_, rfl⟩
  | edge ts dir => exact ⟨_, exec_edgeRow _ dir ts s⟩
  | poll => exact ⟨_, rfl⟩
  | reset => exact ⟨_, rfl⟩

/-- The port carries an event word when nothing but event words is pending. -/
theorem evPort_lt {s : State} (h : ∀ ev ∈ s.pending, ev < 2 ^ (s.cfg.TS_WIDTH + 3)) :
    s.evPort < 2 ^ (s.cfg.TS_WIDTH + 3) := by
  unfold State.evPort
  cases hp : s.pending with
  | nil => exact Nat.two_pow_pos _
  | cons ev rest => exact h ev (by rw [hp]; exact List.mem_cons_self)

/-- Settles O44: the word on the port decodes, and the instruction fetched has a next state. -/
theorem stepNeverStopsOnEventWords : Obligations.StepNeverStopsOnEventWords := by
  intro s hwords
  obtain ⟨hdecodes, -⟩ := everyEventWordDecodes s.cfg.TS_WIDTH s.evPort
  obtain ⟨e, hdec, -⟩ := hdecodes (evPort_lt hwords)
  rw [step_of_fetch (fetch_ok_iff.mpr ⟨e, hdec, rfl⟩)]
  exact everyInstructionHasANextState _ _

/-! ### An accepted edge -/

/-- DecoderState with the bit that the gap decides: a ONE gap at a gap step sets one, every other edge none. -/
def bitDecided (ts : Nat) (s : State) : DecoderState :=
  if 4 ≤ s.decoder.step.toNat ∧ s.decoder.step.toNat % 2 = 0 ∧ gapClass s.cfg (intervalAt s ts) = .one then
    s.decoder.setFrameBit (frameBitIndex s.decoder.step)
  else s.decoder

theorem bitDecided_step (ts : Nat) (s : State) : (bitDecided ts s).step = s.decoder.step := by
  unfold bitDecided
  split_ifs
  · exact s.decoder.setFrameBit_step _
  · rfl

theorem bitDecided_expected_dir (ts : Nat) (s : State) :
    (bitDecided ts s).expected_dir = s.decoder.expected_dir := by
  unfold bitDecided
  split_ifs
  · exact s.decoder.setFrameBit_expected_dir _
  · rfl

/-- Gap step `n` decides frame bit `j` exactly when `n = 4 + 2j`. -/
theorem getLsbD_frame_bitDecided {ts : Nat} {s : State} (hle : s.decoder.step.toNat ≤ 66) {j : Nat} (hj : j < 32) :
    (bitDecided ts s).frame.getLsbD j = (s.decoder.frame.getLsbD j ||
      decide (4 ≤ s.decoder.step.toNat ∧ s.decoder.step.toNat = 4 + 2 * j ∧
        gapClass s.cfg (intervalAt s ts) = .one)) := by
  unfold bitDecided
  split_ifs with hgap
  · obtain ⟨hge, heven, hone⟩ := hgap
    have hindex : frameBitIndex s.decoder.step < 32 := by unfold frameBitIndex; omega
    rw [s.decoder.getLsbD_frame_setFrameBit _ j hindex hj]
    congr 1
    refine decide_eq_decide.mpr ?_
    unfold frameBitIndex
    constructor
    · intro hindex
      exact ⟨hge, by omega, hone⟩
    · rintro ⟨-, hstep, -⟩
      omega
  · rw [decide_eq_false, Bool.or_false]
    rintro ⟨hge, hstep, hone⟩
    exact hgap ⟨hge, by omega, hone⟩

/-- An edge that answers Pending passed the polarity check. -/
theorem edgeOp_of_pending {dir : Dir} {s body : State} (h : (edgeOp dir s body).resp = .pending) :
    edgeOp dir s body = body := by
  rcases edgeOp_cases dir s body with ⟨-, -, he⟩ | ⟨-, he⟩
  · rw [he] at h
    cases h
  · exact he

/-- An edge that answers Pending lies in its window. -/
theorem inWindow_of_pending {w : Window} {ts : Nat} {s onMatch : State}
    (h : (inWindow w ts s onMatch).resp = .pending) : inWindow w ts s onMatch = onMatch := by
  rcases inWindow_cases w ts s onMatch with ⟨-, he⟩ | ⟨-, he⟩
  · exact he
  · rw [he] at h
    cases h

/-- Outside a ONE gap no bit is decided. -/
theorem accept_eq_bitDecided_of_no_one {ts : Nat} {s : State}
    (h : ¬ (4 ≤ s.decoder.step.toNat ∧ s.decoder.step.toNat % 2 = 0 ∧ gapClass s.cfg (intervalAt s ts) = .one)) :
    accept ts s = accept ts { s with decoder := bitDecided ts s } := by
  unfold bitDecided
  rw [if_neg h]

/-- A body that answers Pending accepts the edge, with its gap's bit decided, at a `step` up to 66. -/
theorem edgeBody_of_pending {ts : Nat} {s : State} (h : (edgeBody s.decoder.step ts s).resp = .pending) :
    s.decoder.step.toNat ≤ 66 ∧
    edgeBody s.decoder.step ts s = accept ts { s with decoder := bitDecided ts s } := by
  unfold edgeBody at h ⊢
  split_ifs at h ⊢ with h0 h1 h2 h66 hodd h67
  · -- AWAIT_START
    exact ⟨by omega, accept_eq_bitDecided_of_no_one (by omega)⟩
  · -- START_LOW
    exact ⟨by omega, (inWindow_of_pending h).trans (accept_eq_bitDecided_of_no_one (by omega))⟩
  · -- START_HIGH
    exact ⟨by omega, (inWindow_of_pending h).trans (accept_eq_bitDecided_of_no_one (by omega))⟩
  · -- BIT_PULSE
    exact ⟨h66, (inWindow_of_pending h).trans (accept_eq_bitDecided_of_no_one (by omega))⟩
  · -- BIT_GAP
    refine ⟨h66, ?_⟩
    rcases decideBit_cases ts s with ⟨hzero, he⟩ | ⟨hone, he⟩ | ⟨-, he⟩ <;> rw [he] at h ⊢
    · exact accept_eq_bitDecided_of_no_one (by rw [hzero]; nofun)
    · unfold bitDecided
      rw [if_pos ⟨by omega, by omega, hone⟩]
    · cases h
  · -- STOP_PULSE
    rw [inWindow_of_pending h] at h
    rcases validateFrame_cases s with ⟨-, he⟩ | ⟨-, he⟩ <;> rw [he] at h <;> cases h
  · -- BAD_STEP
    cases h

/-- Settles O20: the edge is `accept` on the state with the gap's bit decided. -/
theorem acceptedEdgeAdvancesByOne : Obligations.AcceptedEdgeAdvancesByOne := by
  intro ts dir s t hexec hresp n
  obtain rfl := Host.Outcome.next.inj ((exec_edgeRow s.decoder.step dir ts s).symm.trans hexec)
  have hbody := edgeOp_of_pending hresp
  rw [hbody] at hresp ⊢
  obtain ⟨hle, haccept⟩ := edgeBody_of_pending hresp
  rw [haccept]
  refine ⟨hle, ?_, rfl, ?_, rfl, rfl, rfl, fun j hj => getLsbD_frame_bitDecided hle hj⟩
  · rw [accept_step, bitDecided_step, toNat_step_add_one hle]
  · rw [accept_expected_dir, bitDecided_expected_dir]

/-! ### A frame -/

/-- Settles O22: of all the ends of an instruction only the emission of a frame answers FrameReady. -/
theorem frameReadyOnlyForAValidFrame : Obligations.FrameReadyOnlyForAValidFrame := by
  intro i s t a c hexec hresp
  rcases exec_cases hexec with ⟨-, rfl⟩ | ⟨-, -, rfl⟩ | ⟨-, -, rfl⟩ | ⟨-, rfl⟩ |
    ⟨ts, dir, hi, ⟨-, -, rfl⟩ | ⟨hdir, hends⟩⟩
  · -- NOP
    cases hresp
  · -- POLL of a waiting frame
    cases hresp
  · -- POLL of an empty mailbox
    cases hresp
  · -- RESET
    cases hresp
  · -- EDGE in the wrong direction
    cases hresp
  · -- EDGE that passes the polarity check
    cases hends with
    | resync _ _ _ => cases hresp
    | accept _ => cases hresp
    | oneGap _ _ => cases hresp
    | frame _ hwindow hok =>
      cases hi
      cases hresp
      obtain ⟨haddress, hcommand⟩ := (complementOk_iff s.decoder).mp hok
      exact ⟨dir, ts, rfl, hdir, hwindow, rfl, BitVec.not_eq_comm.mp haddress.symm, rfl,
        BitVec.not_eq_comm.mp hcommand.symm, rfl, rfl⟩

/-! ### No frame before 68 edges

The stored `step` and the edges still to come add up to a number that no event raises, and an event that answers
FrameReady needs 68 of them. -/

/-- An EDGE is fetched from an EDGE word. -/
theorem isEdgeWord_of_fetch {s : State} {i : Instr} {ts : Nat} {dir : Dir} (hf : fetch s = .ok i)
    (hi : isEdge i ts dir) : isEdgeWord s.cfg.TS_WIDTH s.evPort = true := by
  obtain ⟨e, hdec, rfl⟩ := fetch_ok_iff.mp hf
  obtain rfl : e = .edge ts dir := (instrEvent_dispatch _ e).symm.trans hi
  exact isEdgeWord_iff.mpr ⟨ts, dir, hdec⟩

/-- After a step the edges still to come are those of the slots after the first. -/
theorem edgesIn_of_step {s t : State} (h : step s = .next t) (n : Nat) : edgesIn n t = edgesIn n s.consumed := by
  obtain ⟨i, -, hends⟩ := stepEnds_of_step h
  unfold edgesIn
  rw [configurationNeverChanges s t h, hends.pending_eq]
  rfl

/-- An EDGE is one of the edges to come. -/
theorem edgesIn_succ_of_edge {s : State} {i : Instr} {ts : Nat} {dir : Dir} (hf : fetch s = .ok i)
    (hi : isEdge i ts dir) (n : Nat) : edgesIn (n + 1) s = edgesIn n s.consumed + 1 := by
  rw [edgesIn_succ, if_pos (isEdgeWord_of_fetch hf hi)]

/-- A step does not raise the sum of the stored `step` and the edges still to come. -/
theorem step_add_edgesIn_le {s t : State} (h : step s = .next t) (n : Nat) :
    t.decoder.step.toNat + edgesIn n t ≤ s.decoder.step.toNat + edgesIn (n + 1) s := by
  have hslots : edgesIn n s.consumed ≤ edgesIn (n + 1) s := by rw [edgesIn_succ]; omega
  rw [edgesIn_of_step h]
  obtain ⟨i, hf, hends⟩ := stepEnds_of_step h
  cases hends with
  | nop => exact Nat.add_le_add_left hslots _
  | pollSome => exact Nat.add_le_add_left hslots _
  | pollNone => exact Nat.add_le_add_left hslots _
  | reset => exact Nat.add_le_add (Nat.zero_le _) hslots
  | edge hi _ hmove =>
    rw [edgesIn_succ_of_edge hf hi]
    rcases hmove.step_moves with ⟨-, -, hstep⟩ | ⟨-, hstep⟩ | ⟨-, hstep, -⟩ <;> rw [hstep]
    · rw [State.consumed_decoder]
      omega
    · exact Nat.add_le_add (Nat.zero_le _) (Nat.le_succ _)
    · exact Nat.add_le_add (Nat.zero_le _) (Nat.le_succ _)

/-- A run does not raise that sum either. -/
theorem run_add_edgesIn_le {m : Nat} {s t : State} (h : run m s = .next t) (n : Nat) :
    t.decoder.step.toNat + edgesIn n t ≤ s.decoder.step.toNat + edgesIn (m + n) s := by
  induction m generalizing s with
  | zero => cases h; rw [Nat.zero_add]
  | succ m ih =>
    obtain ⟨u, hstep, hrun⟩ := run_succ_inv h
    calc t.decoder.step.toNat + edgesIn n t ≤ u.decoder.step.toNat + edgesIn (m + n) u := ih hrun
      _ ≤ s.decoder.step.toNat + edgesIn (m + n + 1) s := step_add_edgesIn_le hstep _
      _ = s.decoder.step.toNat + edgesIn (m + 1 + n) s := by rw [Nat.add_right_comm]

/-- A step that answers FrameReady is an EDGE at `step` 67, so the sum before it is at least 68. -/
theorem le_step_add_edgesIn_of_frameReady {s t : State} {a c : Byte} (h : step s = .next t)
    (hresp : t.resp = .frameReady a c) (n : Nat) : 68 ≤ s.decoder.step.toNat + edgesIn (n + 1) s := by
  obtain ⟨i, hf, hends⟩ := stepEnds_of_step h
  cases hends with
  | nop => cases hresp
  | pollSome => cases hresp
  | pollNone => cases hresp
  | reset => cases hresp
  | edge hi _ hmove =>
    rw [edgesIn_succ_of_edge hf hi]
    cases hmove with
    | resync c => cases hresp
    | accept hle => cases hresp
    | oneGap hge hle heven => cases hresp
    | frame hstop =>
      have hstep : s.decoder.step.toNat = 67 := congrArg BitVec.toNat hstop
      omega

/-- Settles O56: from `INIT` the sum is the number of edges presented. -/
theorem noFrameBeforeSixtyEightEdges : Obligations.NoFrameBeforeSixtyEightEdges := by
  intro n s t a c hinit hpos hedges hrun hresp
  obtain ⟨m, rfl⟩ := Nat.exists_eq_add_one.mpr hpos
  obtain ⟨u, hbefore, hlast⟩ := run_succ_inv_last hrun
  have hle := run_add_edgesIn_le hbefore 1
  have hge : 68 ≤ u.decoder.step.toNat + edgesIn 1 u := le_step_add_edgesIn_of_frameReady hlast hresp 0
  have hzero : s.decoder.step.toNat = 0 := by rw [hinit]; rfl
  omega

end Sys2Proof.Machine
end

section
/-! PROOFS, 42_host_operations.md. What POLL, NOP and RESET answer and write (spec/42_host_operations.md R161 to R163).
A slot whose word lies below the kind field is a NOP, so an idle slot is one, and a run of NOPs only takes its words
away. -/

namespace Sys2Proof.Machine

/-! ### The three operations -/

theorem exec_nop (s : State) : exec .nop s = .next (respond .ack s) := rfl

theorem exec_reset (s : State) : exec .reset s = .next (respond .ack { s with decoder := .INIT, mailbox := .EMPTY }) :=
  rfl

/-- POLL takes a waiting frame. -/
theorem exec_poll_of_ready {s : State} (hready : s.mailbox.frame_ready = true) :
    exec .poll s = .next
      (respond (.pollSome s.mailbox.frame_address s.mailbox.frame_command) { s with mailbox := s.mailbox.take }) :=
  congrArg Host.Outcome.next (if_pos hready)

/-- POLL finds no frame. -/
theorem exec_poll_of_not_ready {s : State} (hempty : ¬ s.mailbox.frame_ready = true) :
    exec .poll s = .next (respond .pollNone s) :=
  congrArg Host.Outcome.next (if_neg hempty)

/-- Settles O2: the answer is all that `respond` writes. -/
theorem nopAnswersAckAndChangesNothing : Obligations.NopAnswersAckAndChangesNothing := exec_nop

/-- Settles O3: by whether a frame waits in the mailbox. -/
theorem pollReadsAndClearsTheMailbox : Obligations.PollReadsAndClearsTheMailbox := by
  intro s
  split_ifs with hready
  · exact exec_poll_of_ready hready
  · exact exec_poll_of_not_ready hready

/-- Settles O4: the values written out are those of `INIT` and `EMPTY`. -/
theorem resetEventClearsDecoderAndMailbox : Obligations.ResetEventClearsDecoderAndMailbox := exec_reset

/-! ### A NOP slot -/

/-- Writing the words that are pending already changes nothing. -/
theorem with_pending_of_eq {s : State} {words : List Nat} (h : s.pending = words) :
    { s with pending := words } = s := by
  rw [← h]

/-- A number that fits into the bits below the kind field is a NOP word. -/
theorem decodeEvent_of_lt {W ev : Nat} (h : ev < 2 ^ (W + 1)) : decodeEvent W ev = .ok .nop := by
  have hkind := decodeEvent_of_kind W 0 ev h
  rwa [Nat.zero_mul, Nat.zero_add] at hkind

/-- A step on a NOP word takes the word and answers Ack. -/
theorem step_of_nop_word {s : State} (h : s.evPort < 2 ^ (s.cfg.TS_WIDTH + 1)) :
    step s = .next (respond .ack s.consumed) := by
  have hfetch : fetch s = .ok .nop := fetch_ok_iff.mpr ⟨.nop, decodeEvent_of_lt h, rfl⟩
  rw [step_of_fetch hfetch, exec_nop]

/-- Settles O42: the word on an idle port is 0, and there is none to take away. -/
theorem idleSlotIsANop : Obligations.IdleSlotIsANop := by
  intro s hidle
  have hport : s.evPort = 0 := by rw [State.evPort, hidle, List.headD_nil]
  have hconsumed : s.consumed = s := with_pending_of_eq (by rw [hidle, List.tail_nil])
  rw [step_of_nop_word (by rw [hport]; exact Nat.two_pow_pos _), hconsumed]
  rfl

/-! ### A run of NOPs -/

/-- A step on the first of the pending words, a NOP. -/
theorem step_of_nop_pending {s : State} {ev : Nat} {rest : List Nat} (hpending : s.pending = ev :: rest)
    (hev : ev < 2 ^ (s.cfg.TS_WIDTH + 1)) : step s = .next (respond .ack { s with pending := rest }) := by
  have hport : s.evPort = ev := by rw [State.evPort, hpending, List.headD_cons]
  rw [step_of_nop_word (by rwa [hport]), State.consumed, hpending, List.tail_cons]

/-- After an Ack, NOPs only take their words away. -/
theorem run_nops_of_ack {nops rest : List Nat} {s : State} (hnops : ∀ ev ∈ nops, ev < 2 ^ (s.cfg.TS_WIDTH + 1))
    (hpending : s.pending = nops ++ rest) :
    run nops.length (respond .ack s) = .next (respond .ack { s with pending := rest }) := by
  induction nops generalizing s with
  | nil =>
    have hsame : { s with pending := rest } = s := with_pending_of_eq hpending
    rw [hsame]
    rfl
  | cons ev nops ih =>
    obtain ⟨hev, hnops⟩ := List.forall_mem_cons.mp hnops
    have hstep : step (respond .ack s) = .next (respond .ack { s with pending := nops ++ rest }) :=
      step_of_nop_pending (s := respond .ack s) hpending hev
    exact (run_succ_of_next _ hstep).trans (ih hnops rfl)

/-- Settles O53: the first NOP answers Ack, and after it the others only take their words away. -/
theorem nopsLeaveNoTrace : Obligations.NopsLeaveNoTrace := by
  intro nops rest s hne hnops hpending
  obtain ⟨ev, nops, rfl⟩ := List.exists_cons_of_ne_nil hne
  obtain ⟨hev, hnops⟩ := List.forall_mem_cons.mp hnops
  have hfirst : step s = .next (respond .ack { s with pending := nops ++ rest }) := step_of_nop_pending hpending hev
  exact (run_succ_of_next _ hfirst).trans (run_nops_of_ack (s := { s with pending := nops ++ rest }) hnops rfl)

end Sys2Proof.Machine
end

section
/-! PROOFS, 60_exceptions.md. The one exception of the block: what every Resync does (spec/60_exceptions.md R190), which
check raised it (R182 to R186), and that no event reads the label of an earlier one (R181). -/

namespace Sys2Proof.Machine

/-! ### The ends of an EDGE that raise a Resync -/

/-- Past the polarity check no end of an EDGE is labelled PolarityViolation. -/
theorem EdgeEnds.cause_ne_polarityViolation {ts : Nat} {s t : State} {i : Instr} (h : EdgeEnds ts s i t) :
    t.cause ≠ some .polarityViolation := by
  cases h with
  | resync _ c hc => exact fun he => hc (Option.some.inj he)
  | accept _ => nofun
  | oneGap _ _ => nofun
  | frame _ _ _ => nofun

/-- An end of an EDGE that answers Resync is `raiseResync`. -/
theorem EdgeEnds.eq_raiseResync {ts : Nat} {s t : State} {i : Instr} (h : EdgeEnds ts s i t)
    (hresp : t.resp = .resync) : ∃ c, t = raiseResync c s := by
  cases h with
  | resync _ c _ => exact ⟨c, rfl⟩
  | accept _ => cases hresp
  | oneGap _ _ => cases hresp
  | frame _ _ _ => cases hresp

/-- Settles O13: the check raises the label where it fails, and no later check of an EDGE does. -/
theorem polarityViolationExactlyWhenStrictAndWrong : Obligations.PolarityViolationExactlyWhenStrictAndWrong := by
  intro i ts dir s t hi hexec
  rcases exec_edge_cases hi hexec with ⟨hstrict, hdir, rfl⟩ | ⟨hpass, hends⟩
  · exact ⟨fun _ => ⟨hstrict, hdir⟩, fun _ => raiseResync_cause _ s⟩
  · exact ⟨fun hcause => absurd hcause hends.cause_ne_polarityViolation,
      fun ⟨hstrict, hdir⟩ => absurd (hpass hstrict) hdir⟩

/-- Settles O16: of all the ends of an instruction only `raiseResync` answers Resync, and it is an end of an EDGE. -/
theorem resyncRestoresInitAndKeepsTheMailbox : Obligations.ResyncRestoresInitAndKeepsTheMailbox := by
  intro i s t hexec hresp
  rcases exec_cases hexec with ⟨-, rfl⟩ | ⟨-, -, rfl⟩ | ⟨-, -, rfl⟩ | ⟨-, rfl⟩ |
    ⟨ts, dir, hi, ⟨-, -, rfl⟩ | ⟨-, hends⟩⟩
  · -- NOP
    cases hresp
  · -- POLL of a waiting frame
    cases hresp
  · -- POLL of an empty mailbox
    cases hresp
  · -- RESET
    cases hresp
  · -- EDGE in the wrong direction
    exact ⟨⟨ts, dir, hi⟩, .polarityViolation, rfl⟩
  · -- EDGE that passes the polarity check
    obtain ⟨c, rfl⟩ := hends.eq_raiseResync hresp
    exact ⟨⟨ts, dir, hi⟩, c, rfl⟩

/-! ### The timing check by the `step` -/

/-- The window of step `n`, or the gap class at a gap step, rejects the interval `d` (R182). -/
abbrev TimingRejects (cfg : Cfg) (n d : Nat) : Prop :=
  (n = 1 ∧ cfg.START_LOW.admits d = false) ∨ (n = 2 ∧ cfg.START_HIGH.admits d = false) ∨
  (3 ≤ n ∧ n ≤ 65 ∧ n % 2 = 1 ∧ cfg.BIT_PULSE.admits d = false) ∨
  (4 ≤ n ∧ n ≤ 66 ∧ n % 2 = 0 ∧ gapClass cfg d = .neither) ∨
  (n = 67 ∧ cfg.STOP_PULSE.admits d = false)

section
variable {cfg : Cfg} {n d : Nat}

theorem timingRejects_startLow (h : n = 1) : TimingRejects cfg n d ↔ cfg.START_LOW.admits d = false := by
  simp [TimingRejects, h]

theorem timingRejects_startHigh (h : n = 2) : TimingRejects cfg n d ↔ cfg.START_HIGH.admits d = false := by
  simp [TimingRejects, h]

theorem timingRejects_bitPulse (hge : 3 ≤ n) (hle : n ≤ 66) (hodd : n % 2 = 1) :
    TimingRejects cfg n d ↔ cfg.BIT_PULSE.admits d = false := by
  refine ⟨?_, fun hout => .inr (.inr (.inl ⟨hge, by omega, hodd, hout⟩))⟩
  rintro (⟨hn, -⟩ | ⟨hn, -⟩ | ⟨-, -, -, hout⟩ | ⟨-, -, heven, -⟩ | ⟨hn, -⟩)
  · omega
  · omega
  · exact hout
  · omega
  · omega

theorem timingRejects_bitGap (hge : 3 ≤ n) (hle : n ≤ 66) (heven : n % 2 = 0) :
    TimingRejects cfg n d ↔ gapClass cfg d = .neither := by
  refine ⟨?_, fun hclass => .inr (.inr (.inr (.inl ⟨by omega, hle, heven, hclass⟩)))⟩
  rintro (⟨hn, -⟩ | ⟨hn, -⟩ | ⟨-, -, hodd, -⟩ | ⟨-, -, -, hclass⟩ | ⟨hn, -⟩)
  · omega
  · omega
  · omega
  · exact hclass
  · omega

theorem timingRejects_stopPulse (h : n = 67) : TimingRejects cfg n d ↔ cfg.STOP_PULSE.admits d = false := by
  simp [TimingRejects, h]

end

/-! ### The label of each check -/

theorem inWindow_cause (w : Window) (ts : Nat) (s onMatch : State) : (inWindow w ts s onMatch).cause =
    if w.admits (intervalAt s ts) = false then some .timingMismatch else onMatch.cause := by
  rcases inWindow_cases w ts s onMatch with ⟨hin, he⟩ | ⟨hout, he⟩ <;> rw [he]
  · rw [if_neg (ne_false_of_eq_true hin)]
  · rw [if_pos hout, raiseResync_cause]

theorem decideBit_cause (ts : Nat) (s : State) : (decideBit ts s).cause =
    if gapClass s.cfg (intervalAt s ts) = .neither then some .timingMismatch else none := by
  rcases decideBit_cases ts s with ⟨hclass, he⟩ | ⟨hclass, he⟩ | ⟨hclass, he⟩ <;> rw [he, hclass] <;> rfl

theorem validateFrame_cause (s : State) : (validateFrame s).cause =
    if s.decoder.address = ~~~s.decoder.address_inverse ∧ s.decoder.command = ~~~s.decoder.command_inverse then none
    else some .complementMismatch := by
  rcases validateFrame_cases s with ⟨hok, he⟩ | ⟨hbad, he⟩ <;> rw [he]
  · rw [if_pos ((complementOk_iff s.decoder).mp hok), emitFrame_cause]
  · rw [if_neg (mt (complementOk_iff s.decoder).mpr (ne_true_of_eq_false hbad)), raiseResync_cause]

/-! ### The order of the checks -/

/-- The label of the first check that fails once the polarity check has passed: the `step`, the timing, the complements
(R186). -/
def firstFailingCheck (ts : Nat) (s : State) : Option Cause :=
  if 68 ≤ s.decoder.step.toNat then some .unreachableStep
  else if TimingRejects s.cfg s.decoder.step.toNat (intervalAt s ts) then some .timingMismatch
  else if s.decoder.step.toNat = 67 ∧ ¬ (s.decoder.address = ~~~s.decoder.address_inverse ∧
      s.decoder.command = ~~~s.decoder.command_inverse) then some .complementMismatch
  else none

/-- Before the stop pulse the timing check of the row is the only one. -/
theorem firstFailingCheck_of_le {ts : Nat} {s : State} {p : Prop} [Decidable p] (hle : s.decoder.step.toNat ≤ 66)
    (hrow : TimingRejects s.cfg s.decoder.step.toNat (intervalAt s ts) ↔ p) :
    firstFailingCheck ts s = if p then some .timingMismatch else none := by
  rw [firstFailingCheck, if_neg (by omega), if_congr hrow rfl (if_neg (by omega))]

/-- At the stop pulse the complements are checked after the window. -/
theorem firstFailingCheck_stopPulse {ts : Nat} {s : State} (hstop : s.decoder.step.toNat = 67) :
    firstFailingCheck ts s =
      if s.cfg.STOP_PULSE.admits (intervalAt s ts) = false then some .timingMismatch
      else if s.decoder.address = ~~~s.decoder.address_inverse ∧ s.decoder.command = ~~~s.decoder.command_inverse then
        none
      else some .complementMismatch := by
  rw [firstFailingCheck, if_neg (by omega),
    if_congr (timingRejects_stopPulse hstop) rfl (if_congr (and_iff_right hstop) rfl rfl), ite_not]

/-- The body that the stored `step` selects leaves the label of the first failing check. -/
theorem edgeBody_cause (ts : Nat) (s : State) :
    (edgeBody s.decoder.step ts s).cause = firstFailingCheck ts s := by
  unfold edgeBody
  split_ifs with h0 h1 h2 h66 hodd h67
  · -- AWAIT_START
    rw [accept_cause, firstFailingCheck_of_le (p := False) (by omega) (iff_false_intro (by omega)), if_false]
  · -- START_LOW
    rw [inWindow_cause, accept_cause, firstFailingCheck_of_le (by omega) (timingRejects_startLow h1)]
  · -- START_HIGH
    rw [inWindow_cause, accept_cause, firstFailingCheck_of_le (by omega) (timingRejects_startHigh h2)]
  · -- BIT_PULSE
    rw [inWindow_cause, accept_cause, firstFailingCheck_of_le h66 (timingRejects_bitPulse (by omega) h66 hodd)]
  · -- BIT_GAP
    rw [decideBit_cause, firstFailingCheck_of_le h66 (timingRejects_bitGap (by omega) h66 (by omega))]
  · -- STOP_PULSE
    rw [inWindow_cause, validateFrame_cause, firstFailingCheck_stopPulse h67]
  · -- BAD_STEP
    rw [raiseResync_cause, firstFailingCheck, if_pos (by omega)]

/-- Settles O17: the polarity check comes first, and the body of the row makes the others in their order. -/
theorem causeIsTheFirstFailingCheck : Obligations.CauseIsTheFirstFailingCheck := by
  intro ts dir s t hexec n d
  obtain rfl := Host.Outcome.next.inj ((exec_edgeRow s.decoder.step dir ts s).symm.trans hexec)
  rcases edgeOp_cases dir s (edgeBody s.decoder.step ts s) with ⟨hstrict, hdir, he⟩ | ⟨hpass, he⟩ <;> rw [he]
  · rw [if_pos ⟨hstrict, hdir⟩, raiseResync_cause]
  · rw [if_neg fun ⟨hstrict, hdir⟩ => hdir (hpass hstrict), edgeBody_cause]
    rfl

/-! ### The label and the last response are never read -/

/-- The state with another label and another last response. -/
def relabel (c : Option Cause) (r : Response) (s : State) : State := { s with cause := c, resp := r }

section
variable (c : Option Cause) (r : Response) (s : State)

/-- Each end of an EDGE's body is a `respond` or a `raiseResync`, and both write the two fields. -/
theorem edgeBody_relabel (step : StepReg) (ts : Nat) : edgeBody step ts (relabel c r s) = edgeBody step ts s := rfl

theorem edgeOp_relabel (dir : Dir) (body : State) : edgeOp dir (relabel c r s) body = edgeOp dir s body := rfl

/-- No instruction reads the two fields, and each writes both. -/
theorem exec_relabel (i : Instr) : exec i (relabel c r s) = exec i s := by
  rw [← dispatch_stepBits i]
  cases instrEvent i with
  | nop => rfl
  | edge ts dir =>
    show exec (edgeRow _ dir ts) _ = exec (edgeRow _ dir ts) s
    rw [exec_edgeRow, exec_edgeRow, edgeBody_relabel, edgeOp_relabel]
  | poll => rfl
  | reset => rfl

end

/-- Settles O18: the word and the `step` that are fetched are the same, and the instruction reads neither field. -/
theorem causeAndResponseAreNeverRead : Obligations.CauseAndResponseAreNeverRead := by
  intro s c r
  have hfetch : fetch (relabel c r s) = fetch s := rfl
  have hconsumed : (relabel c r s).consumed = relabel c r s.consumed := rfl
  show step (relabel c r s) = step s
  unfold step
  rw [hfetch, hconsumed]
  cases fetch s with
  | ok i => exact exec_relabel c r s.consumed i
  | error e => rfl

end Sys2Proof.Machine
end

section
/-! PROOFS, 70_reset_and_hazards.md. The values after power-on (spec/70_reset_and_hazards.md R210), what the edge contract
makes of the interval (R220, R221), why a filtering edge source makes the two polarity modes equal (R222), and why the
tail of a damaged frame leaves the decoder at `INIT` (R223). -/

namespace Sys2Proof

/-! ### The reset state -/

/-- Settles O1: the values written out are those of `INIT` and `EMPTY`. -/
theorem resetStateHoldsTheStatedValues : Obligations.ResetStateHoldsTheStatedValues := ⟨rfl, rfl⟩

/-! ### Elapsed time -/

/-- From a stored timestamp 0 the block sees the time itself, narrowed to `W` bits. -/
theorem interval_zero (W n : Nat) : interval W 0 n = n % 2 ^ W := by
  have hcast := interval_cast W 0 n
  rw [Nat.cast_zero, sub_zero] at hcast
  exact_mod_cast hcast

/-- Settles O26: the two times are 0 and their difference, both moved by the first time. -/
theorem intervalIsElapsedTimeModuloTheCounter : Obligations.IntervalIsElapsedTimeModuloTheCounter := by
  rintro W t₁ t₂ last ts ⟨hgrow, hstamps⟩
  obtain ⟨rfl, rfl⟩ : last = t₁ % 2 ^ W ∧ ts = t₂ % 2 ^ W := by simpa using hstamps
  have hlt : t₁ < t₂ := by simpa using hgrow
  calc interval W (t₁ % 2 ^ W) (t₂ % 2 ^ W)
      = interval W ((0 + t₁) % 2 ^ W) ((t₂ - t₁ + t₁) % 2 ^ W) := by rw [Nat.zero_add, Nat.sub_add_cancel hlt.le]
    _ = interval W 0 (t₂ - t₁) := interval_move W 0 (t₂ - t₁) t₁
    _ = (t₂ - t₁) % 2 ^ W := interval_zero W (t₂ - t₁)

namespace Machine

/-! ### The polarity mode

The polarity check alone reads the mode, so the body of an EDGE commutes with setting it. -/

/-- The state in strict mode (`strict` = true) or in trust mode. -/
def withMode (strict : Bool) (s : State) : State := { s with cfg := { s.cfg with POLARITY_STRICT := strict } }

section
variable (strict : Bool) (ts : Nat) (s : State)

theorem inWindow_withMode (w : Window) (onMatch : State) :
    inWindow w ts (withMode strict s) (withMode strict onMatch) = withMode strict (inWindow w ts s onMatch) := by
  have hinterval : intervalAt (withMode strict s) ts = intervalAt s ts := rfl
  unfold inWindow
  rw [hinterval, apply_ite (withMode strict)]
  rfl

theorem validateFrame_withMode : validateFrame (withMode strict s) = withMode strict (validateFrame s) := by
  unfold validateFrame
  rw [apply_ite (withMode strict)]
  rfl

theorem decideBit_withMode : decideBit ts (withMode strict s) = withMode strict (decideBit ts s) := by
  have hclass : gapClass (withMode strict s).cfg (intervalAt (withMode strict s) ts) =
      gapClass s.cfg (intervalAt s ts) := rfl
  unfold decideBit
  rw [hclass]
  cases gapClass s.cfg (intervalAt s ts) with
  | zero => rfl
  | one => rfl
  | neither => rfl

theorem edgeBody_withMode (step : StepReg) :
    edgeBody step ts (withMode strict s) = withMode strict (edgeBody step ts s) := by
  have haccept : accept ts (withMode strict s) = withMode strict (accept ts s) := rfl
  unfold edgeBody
  rw [haccept, validateFrame_withMode]
  split_ifs
  · -- AWAIT_START
    rfl
  · -- START_LOW
    exact inWindow_withMode strict ts s _ _
  · -- START_HIGH
    exact inWindow_withMode strict ts s _ _
  · -- BIT_PULSE
    exact inWindow_withMode strict ts s _ _
  · -- BIT_GAP
    exact decideBit_withMode strict ts s
  · -- STOP_PULSE
    exact inWindow_withMode strict ts s _ _
  · -- BAD_STEP
    rfl

end

/-- An edge of the direction shown passes the check in either mode. -/
theorem polarityPasses_of_filtered {s : State} {dir : Dir} (h : filtered s dir) (strict : Bool) :
    polarityPasses (withMode strict s) dir := fun _ => h

/-- Settles O15: the check passes in both modes, and the body that runs after it is the same. -/
theorem filteredTrustModeEqualsStrictMode : Obligations.FilteredTrustModeEqualsStrictMode := by
  intro i ts dir s t hi hfiltered htrust
  obtain ⟨step, hexec⟩ := exec_edge_eq hi
  have hmode (strict : Bool) : exec i (withMode strict s) = .next (withMode strict (edgeBody step ts s)) := by
    rw [hexec, edgeOp_of_passes (polarityPasses_of_filtered hfiltered strict), edgeBody_withMode]
  have ht : t = withMode false (edgeBody step ts s) := Host.Outcome.next.inj (htrust.symm.trans (hmode false))
  have hcfg : t.cfg = (withMode false s).cfg := exec_keeps_cfg htrust
  calc exec i (withMode true s) = .next (withMode true (edgeBody step ts s)) := hmode true
    _ = .next (withMode true t) := by rw [ht]; rfl
    _ = .next { t with cfg := { s.cfg with POLARITY_STRICT := true } } := by rw [withMode, hcfg]; rfl

/-! ### Failed starts -/

/-- The first edge after `INIT` is accepted. -/
theorem step_awaitStart {s : State} {ts : Nat} {dir : Dir} {words : List Nat} (hinit : s.decoder = .INIT)
    (hpending : s.pending = encodeEvent s.cfg.TS_WIDTH (.edge ts dir) :: words) (hts : ts < 2 ^ s.cfg.TS_WIDTH)
    (hdir : polarityPasses s dir) : step s = .next (accept ts s.consumed) := by
  rw [step_of_edge hpending hts hdir, hinit]
  rfl

/-- At `step` 1 an edge that ends no start pulse raises TimingMismatch. -/
theorem step_startLow_of_not_admits {s : State} {ts : Nat} {dir : Dir} {words : List Nat} (hstep : s.decoder.step = 1)
    (hpending : s.pending = encodeEvent s.cfg.TS_WIDTH (.edge ts dir) :: words) (hts : ts < 2 ^ s.cfg.TS_WIDTH)
    (hdir : polarityPasses s dir) (hout : s.cfg.START_LOW.admits (intervalAt s ts) = false) :
    step s = .next (raiseResync .timingMismatch s.consumed) := by
  have hbody : edgeBody 1 ts s.consumed = raiseResync .timingMismatch s.consumed := if_neg (ne_true_of_eq_false hout)
  rw [step_of_edge hpending hts hdir, hstep, hbody]

/-- A failed start: the first edge of the pair is accepted, the second raises TimingMismatch, and all that is gone is the
two words. -/
theorem run_failedStart {s : State} {words : List Nat} {d₁ d₂ : Dir} {t₁ t₂ : Nat} (hinit : s.decoder = .INIT)
    (hmode : s.cfg.POLARITY_STRICT = true → d₁ = .falling ∧ d₂ = .rising)
    (hpending : s.pending =
      encodeEvent s.cfg.TS_WIDTH (.edge t₁ d₁) :: encodeEvent s.cfg.TS_WIDTH (.edge t₂ d₂) :: words)
    (ht₁ : t₁ < 2 ^ s.cfg.TS_WIDTH) (ht₂ : t₂ < 2 ^ s.cfg.TS_WIDTH)
    (hout : s.cfg.START_LOW.admits (interval s.cfg.TS_WIDTH t₁ t₂) = false) :
    run 2 s = .next (raiseResync .timingMismatch { s with pending := words }) := by
  have hdir₁ : polarityPasses s d₁ := fun hstrict => by
    rw [hinit, DecoderState.INIT_expected_dir]
    exact (hmode hstrict).1
  have hdir₂ : polarityPasses (accept t₁ s.consumed) d₂ := fun hstrict => by
    rw [accept_expected_dir, State.consumed_decoder, hinit]
    exact (hmode hstrict).2
  have hstep : (accept t₁ s.consumed).decoder.step = 1 := by
    rw [accept_step, State.consumed_decoder, hinit]
    rfl
  have hpending₂ : (accept t₁ s.consumed).pending = encodeEvent s.cfg.TS_WIDTH (.edge t₂ d₂) :: words := by
    rw [accept_pending, State.consumed_pending, hpending, List.tail_cons]
  have hend : raiseResync .timingMismatch (accept t₁ s.consumed).consumed =
      raiseResync .timingMismatch { s with pending := words } := by
    rw [State.consumed, hpending₂]
    rfl
  rw [run_succ_of_next 1 (step_awaitStart hinit hpending ht₁ hdir₁),
    run_succ_of_next 0 (step_startLow_of_not_admits hstep hpending₂ ht₂ hdir₂ hout), run_zero, hend]

/-- Settles O59: by induction on the pairs, each of which is a failed start. -/
theorem failedStartsLeaveInitAndMailbox : Obligations.FailedStartsLeaveInitAndMailbox := by
  intro pairs rest d₁ d₂ s W hmode hinit hpairs hpending
  induction pairs generalizing s with
  | nil => exact ⟨s, rfl, hinit, rfl, hpending, rfl⟩
  | cons p pairs ih =>
    obtain ⟨⟨ht₁, ht₂, hout⟩, hpairs⟩ := List.forall_mem_cons.mp hpairs
    have hpair := run_failedStart hinit hmode hpending ht₁ ht₂ hout
    rw [List.length_cons, Nat.mul_succ, Nat.add_comm, run_add _ _ hpair]
    exact ih _ hmode rfl hpairs rfl

end Machine

end Sys2Proof
end
